-- ==== Sys2Proof/Word.lean ====
section
/-! DEFINITION. The word types of the block: their widths are fixed by 00_scope.md R8 and R9 and by
30_encoding.md R75 and R82. One-bit registers and ports are `Bool`, with `true` for 1. -/

namespace Sys2Proof

/-- A node address on the bus: 12 bits (00_scope.md R8). -/
abbrev Addr12 := BitVec 12

/-- A data byte, and the LENGTH field: 8 bits (00_scope.md R8). -/
abbrev Byte := BitVec 8

/-- The CONTROL field: 4 bits (00_scope.md R8). -/
abbrev Nibble := BitVec 4

/-- A host register: 16 bits (20_memory.md R45). -/
abbrev Reg16 := BitVec 16

/-- A host register address: 7 bits (20_memory.md R45). -/
abbrev RegAddr := BitVec 7

/-- A host operation word: [23] DIR, [22:16] ADDR, [15:0] DATA (30_encoding.md R82). -/
abbrev HostWord := BitVec 24

/-- A timestamp: TS_W = 32 bits (00_scope.md R9). -/
abbrev Stamp := BitVec 32

/-- MAX_DATA, the number of data bytes a frame can hold (00_scope.md R8). -/
abbrev maxData : Nat := 32

end Sys2Proof
end

