-- ==== Sys2Proof/Config.lean ====
section
/-! DEFINITION. What an implementation fixes: the parameter record of 00_scope.md R7 to R9, the limits the
spec sets on it, its default values, and the free values (constants with no body) for what the spec leaves
OPEN and for the inputs of a tick that nothing has scheduled. -/

namespace Sys2Proof

/-- BCAST_ACK_SLOT (00_scope.md R9): whether a Broadcast sender puts its acknowledge slots on the wire. -/
inductive AckSlotRule where
  /-- EMIT, the default (43_acknowledge.md R127). -/
  | emit
  /-- OMIT, the alternative (43_acknowledge.md R128). -/
  | skip
deriving DecidableEq, Repr

/-- The parameters of 00_scope.md R7 and R9. Durations are ticks. The widths CNT_W = 16 and TS_W = 32 are
in the types of the registers; MAX_DATA is `maxData`. -/
structure Params where
  /-- T1_HIGH -/
  t1High : Nat
  /-- T0_HIGH -/
  t0High : Nat
  /-- T_BIT -/
  tBit : Nat
  /-- T_THRESH -/
  tThresh : Nat
  /-- T_START_HIGH -/
  tStartHigh : Nat
  /-- T_START -/
  tStart : Nat
  /-- T_START_MIN -/
  tStartMin : Nat
  /-- T_BUSFREE -/
  tBusfree : Nat
  /-- T_REM -/
  tRem : Nat
  /-- TICK_RATE in ticks per microsecond; no rule depends on it. -/
  tickRate : Nat
  /-- EDGE_TIMEOUT: `none` for unbounded waits (60_exceptions.md R190). -/
  edgeTimeout : Option Nat
  /-- WDT_KICK_INTERVAL (40_step.md R93). -/
  wdtKickInterval : BitVec 16
  /-- MODE_BCAST_BIT: the mode bit that means Broadcast (30_encoding.md R69). -/
  modeBcastBit : Bool
  /-- BCAST_ACK_SLOT -/
  bcastAckSlot : AckSlotRule
  /-- CLEAR_REG_ON_DATA_PARITY (45_frame_receive.md R157). -/
  clearRegOnDataParity : Bool
  /-- PROBE_OPCODE -/
  probeOpcode : Byte
  /-- PROBE_TERM -/
  probeTerm : Byte
  /-- REPLY_DATA; the byte at the token's offset is replaced (45_frame_receive.md R163). -/
  replyData : List Byte
  /-- TOKEN_OFFSET -/
  tokenOffset : Nat
  /-- RESET_OWN_ADDR -/
  resetOwnAddr : Addr12
  /-- RESET_PEER_ADDR -/
  resetPeerAddr : Addr12
  /-- RESET_BCAST_ADDR -/
  resetBcastAddr : Addr12
  /-- RESET_CTRL_FLAGS -/
  resetCtrlFlags : Nibble
deriving DecidableEq, Repr

/-- EDGE_TIMEOUT is `none` or at least T_START (00_scope.md R9, 70_reset_and_hazards.md R225). -/
abbrev Params.EdgeTimeoutLegal (p : Params) : Prop :=
  (p.edgeTimeout.all fun n => decide (p.tStart ≤ n)) = true

/-- The limits of 00_scope.md R7 and R9 and 70_reset_and_hazards.md R225, with three more that the widths
of the registers ask for: T_BIT and T_START fit PER (6 bits), T_BUSFREE fits CNT (16 bits), the reply fits
FR_DATA (log 13). -/
abbrev Params.Legal (p : Params) : Prop :=
  1 ≤ p.t1High ∧ p.t1High ≤ p.tThresh ∧ p.tThresh < p.t0High ∧ p.t0High < p.tBit ∧
  p.tStartMin ≤ p.tStartHigh ∧ p.tStartHigh < p.tStart ∧ p.tThresh < p.tStartMin ∧
  p.t0High ≤ p.tRem ∧ p.tRem ≤ p.tBit ∧
  p.tBit - p.t1High < p.tBusfree ∧ p.tStart - p.tStartHigh < p.tBusfree ∧
  p.EdgeTimeoutLegal ∧ p.wdtKickInterval ≠ 0#16 ∧
  p.tBit < 64 ∧ p.tStart < 64 ∧ p.tBusfree < 65536 ∧
  p.replyData.length ≤ maxData

/-- The timing values of the source (00_scope.md R7). -/
abbrev Params.SourceTiming (p : Params) : Prop :=
  p.t1High = 5 ∧ p.t0High = 9 ∧ p.tBit = 10 ∧ p.tThresh = 7 ∧ p.tStartHigh = 42 ∧ p.tStart = 47 ∧
  p.tStartMin = 40 ∧ p.tBusfree = 10 ∧ p.tRem = 9

namespace Config

/-- What EDGE_TIMEOUT exceeds T_START by, or `none` for unbounded waits: OPEN (00_scope.md R9), a free
value (log 4). -/
opaque edgeTimeoutSlack : Option Nat

/-- WDT_KICK_INTERVAL less one: OPEN, a free value from 0 to 65534 (40_step.md R93, log 4). -/
opaque wdtKickLessOne : Fin 65535

/-- RESET_BCAST_ADDR: OPEN, a free value (00_scope.md R9, log 4). -/
opaque resetBcastAddr : Addr12

/-- EXT(t), the other nodes' drive in a tick for which nothing is scheduled: the environment's free draw
(10_state.md R20, log 3). -/
opaque extDrive : Nat → Bool

/-- ts_in(t), the timestamp port in a tick for which nothing is scheduled: a free input (10_state.md R19
and R44, log 3). -/
opaque tsIn : Nat → Stamp

/-- The values of 00_scope.md R7 and R9 with the three OPEN parameters given. -/
def withOpen (edgeTimeout : Option Nat) (wdtKickInterval : BitVec 16) (bcast : Addr12) : Params where
  t1High := 5
  t0High := 9
  tBit := 10
  tThresh := 7
  tStartHigh := 42
  tStart := 47
  tStartMin := 40
  tBusfree := 10
  tRem := 9
  tickRate := 2
  edgeTimeout := edgeTimeout
  wdtKickInterval := wdtKickInterval
  modeBcastBit := false
  bcastAckSlot := .emit
  clearRegOnDataParity := true
  probeOpcode := 0x10
  probeTerm := 0x01
  replyData := [0x11, 0x00, 0x01, 0x02, 0x85, 0x00]
  tokenOffset := 5
  resetOwnAddr := 0x140
  resetPeerAddr := 0x130
  resetBcastAddr := bcast
  resetCtrlFlags := 0xE

/-- The parameters of the reset state: the spec's values, and free values for what it leaves OPEN. -/
def params : Params :=
  withOpen (edgeTimeoutSlack.map (· + 47)) (BitVec.ofNat 16 (wdtKickLessOne.val + 1)) resetBcastAddr

end Config

end Sys2Proof
end

