-- ==== Sys2Proof/Syntax.lean ====
section
/-! DEFINITION. The syntax of every row of spec/opcode_table.json, and the encoded forms the rows are
written in: tick waveforms for wire symbols, strings of symbols for wire fields, 24-bit words for host
operations, groups of words for pseudo-instructions (the table's column "format"). -/

namespace Sys2Proof

/-- Field codes (30_encoding.md R70). -/
inductive FieldCode where
  | none | start | mode | master | slave | control | length | data
deriving DecidableEq, Repr

/-- The kinds of an element of a frame (00_scope.md R13). END is no kind: see `Machine.Elem`. -/
inductive Kind where
  | val | par | ack
deriving DecidableEq, Repr

/-- The three pulse symbols of the line (30_encoding.md R61 to R64). -/
inductive Symbol where
  | one | zero | start
deriving DecidableEq, Repr

/-- A field's value with its parity symbol: FIELD_MASTER (30_encoding.md R68). The symbol is the one on
the wire; it need not be the value's parity (log 6). -/
structure ParField (w : Nat) where
  v : BitVec w
  p : Bool
deriving DecidableEq, Repr

/-- A field's value with its parity symbol and its acknowledge slot, `k` the bit the slot reads as: 0 when
a receiver stretched it, 1 when none did (30_encoding.md R65). -/
structure AckField (w : Nat) where
  v : BitVec w
  p : Bool
  k : Bool
deriving DecidableEq, Repr

/-- One constructor per row of spec/opcode_table.json, in the table's order. -/
inductive Instr where
  -- wire symbols (30_encoding.md R62 to R65)
  | bit1
  | bit0
  | start
  | ackSlotNotAcked
  | ackSlotAcked
  -- wire fields (30_encoding.md R67 to R69, 44_frame_transmit.md R139 to R142)
  | fieldMode (m : Bool)
  | fieldMaster (a : ParField 12)
  | fieldSlave (a : AckField 12)
  | fieldControl (c : AckField 4)
  | fieldLength (l : AckField 8)
  | fieldData (d : AckField 8)
  | frame (m : Bool) (a : ParField 12) (b : AckField 12) (c : AckField 4) (l : AckField 8)
      (ds : List (AckField 8))
  -- host operations (46_host_interface.md R171 to R183)
  | wrCtrl (v : Reg16)
  | rdCtrl
  | wrStatus (v : Reg16)
  | rdStatus
  | wrTxResult (v : Reg16)
  | rdTxResult
  | wrRxResult (v : Reg16)
  | rdRxResult
  | wrOwnAddr (v : Reg16)
  | rdOwnAddr
  | wrPeerAddr (v : Reg16)
  | rdPeerAddr
  | wrBcastAddr (v : Reg16)
  | rdBcastAddr
  | wrCtrlFlags (v : Reg16)
  | rdCtrlFlags
  | wrRegTsLo (v : Reg16)
  | rdRegTsLo
  | wrRegTsHi (v : Reg16)
  | rdRegTsHi
  | wrCmd (v : Reg16)
  | rdCmd
  | wrTxbMode (v : Reg16)
  | rdTxbMode
  | wrTxbMaster (v : Reg16)
  | rdTxbMaster
  | wrTxbSlave (v : Reg16)
  | rdTxbSlave
  | wrTxbCtrl (v : Reg16)
  | rdTxbCtrl
  | wrTxbLen (v : Reg16)
  | rdTxbLen
  | wrFrMode (v : Reg16)
  | rdFrMode
  | wrFrMaster (v : Reg16)
  | rdFrMaster
  | wrFrSlave (v : Reg16)
  | rdFrSlave
  | wrFrCtrl (v : Reg16)
  | rdFrCtrl
  | wrFrLen (v : Reg16)
  | rdFrLen
  | wrTxbDataI (i : BitVec 5) (v : Reg16)
  | rdTxbDataI (i : BitVec 5)
  | wrFrDataI (i : BitVec 5) (v : Reg16)
  | rdFrDataI (i : BitVec 5)
  | wrRdReserved (dir : Bool) (a : RegAddr) (v : Reg16)
  -- pseudo-instructions (30_encoding.md R84); the widths of SEND's and CONFIG's operands are log 19's
  | txgo
  | send (m : Bool) (ma sa : Addr12) (c : Nibble) (ds : List Byte)
  | config (own peer bcast : Addr12) (flags : Nibble)
  | ctrlset (f e : Bool)
deriving DecidableEq, Repr

/-- An encoded instruction, in the form its row of the table is written in. The wire forms carry the
position they stand at (an acknowledge slot or not, a field's code), which the symbols alone do not show: a BIT1
and an unstretched slot are one waveform (log 7). -/
inductive Code where
  /-- A wire symbol, tick by tick from its rising edge (00_scope.md R12); `slot` when it stands in an
  acknowledge slot. -/
  | symbol (slot : Bool) (wave : List Bool)
  /-- A wire field, symbol by symbol. -/
  | field (f : FieldCode) (symbols : List Symbol)
  /-- A whole frame, symbol by symbol, its START first (30_encoding.md R67). -/
  | frame (symbols : List Symbol)
  /-- One host operation word (30_encoding.md R82). -/
  | host (w : HostWord)
  /-- A pseudo-instruction: the words of its expansion, issued together (30_encoding.md R84). -/
  | pseudo (ws : List HostWord)
deriving DecidableEq, Repr

/-- Why an encoded form is no row of the table. -/
inductive DecodeError where
  /-- A waveform that is no symbol's (30_encoding.md R62 to R65). -/
  | notASymbol
  /-- A string of symbols that is not the named field's (30_encoding.md R67). -/
  | notAField
  /-- A string of symbols that is no frame's (30_encoding.md R67). -/
  | notAFrame
  /-- A group of words that is no pseudo-instruction's expansion (30_encoding.md R84). -/
  | notAPseudo
deriving DecidableEq, Repr

end Sys2Proof
end

