-- ==== Sys2Proof/WellFormed.lean ====
section
/-! DEFINITION. Which instructions the encodings of 30_encoding.md can spell: the checks that the types of
the operands do not already make. -/

namespace Sys2Proof

/-- The reserved host addresses: 0x0A to 0x0E, 0x15 to 0x1F, 0x45 to 0x5F (30_encoding.md R78). -/
def reservedAddr (a : RegAddr) : Bool :=
  (0x0A#7 ≤ a && a ≤ 0x0E#7) || (0x15#7 ≤ a && a ≤ 0x1F#7) || (0x45#7 ≤ a && a ≤ 0x5F#7)

/-- The checks. WR_RD_reserved names a reserved address (30_encoding.md R78). SEND stages at most 32 bytes,
since it writes TXB_DATA[i] for each (R83, R84). A FRAME has as many data fields as its length says (R80). -/
def WellFormed : Instr → Bool
  | .wrRdReserved _ a _ => reservedAddr a
  | .send _ _ _ _ ds => ds.length ≤ maxData
  | .frame _ _ _ _ l ds => ds.length == l.v.toNat
  | .bit1 | .bit0 | .start | .ackSlotNotAcked
  | .ackSlotAcked | .fieldMode _ | .fieldMaster _ | .fieldSlave _
  | .fieldControl _ | .fieldLength _ | .fieldData _ | .wrCtrl _
  | .rdCtrl | .wrStatus _ | .rdStatus | .wrTxResult _
  | .rdTxResult | .wrRxResult _ | .rdRxResult | .wrOwnAddr _
  | .rdOwnAddr | .wrPeerAddr _ | .rdPeerAddr | .wrBcastAddr _
  | .rdBcastAddr | .wrCtrlFlags _ | .rdCtrlFlags | .wrRegTsLo _
  | .rdRegTsLo | .wrRegTsHi _ | .rdRegTsHi | .wrCmd _
  | .rdCmd | .wrTxbMode _ | .rdTxbMode | .wrTxbMaster _
  | .rdTxbMaster | .wrTxbSlave _ | .rdTxbSlave | .wrTxbCtrl _
  | .rdTxbCtrl | .wrTxbLen _ | .rdTxbLen | .wrFrMode _
  | .rdFrMode | .wrFrMaster _ | .rdFrMaster | .wrFrSlave _
  | .rdFrSlave | .wrFrCtrl _ | .rdFrCtrl | .wrFrLen _
  | .rdFrLen | .wrTxbDataI _ _ | .rdTxbDataI _ | .wrFrDataI _ _
  | .rdFrDataI _ | .txgo | .config _ _ _ _ | .ctrlset _ _ => true

end Sys2Proof
end

