-- ==== Sys2Proof/Decode.lean ====
section
/-! DEFINITION. The encodings of spec/opcode_table.json read and written: `decode` is total on every encoded
form and rejects by name; `encode` writes a well-formed instruction; `decodeTableWord` reads a row's bits
as the table numbers them. Every definition follows 30_encoding.md. -/

namespace Sys2Proof

/-! ## Bits and symbols -/

/-- Bits n-1 down to 0 of a value, most significant first (30_encoding.md R68). -/
def msbFirst {w : Nat} (v : BitVec w) : Nat → List Bool
  | 0 => []
  | n + 1 => v.getLsbD n :: msbFirst v n

/-- The value whose bits, most significant first, are given. -/
def ofMsbFirst (w : Nat) (bs : List Bool) : BitVec w :=
  bs.foldl (fun acc b => (acc <<< 1) ||| (BitVec.ofBool b).setWidth w) 0#w

/-- BIT1 for a 1 and BIT0 for a 0 (30_encoding.md R68). -/
def symbolOf (b : Bool) : Symbol := if b then .one else .zero

/-- The bit a symbol carries; START carries none. -/
def bitOf : Symbol → Option Bool
  | .one => some true
  | .zero => some false
  | .start => none

/-- The bits of a string of symbols, or none where a START stands among them. -/
def bitsOf : List Symbol → Option (List Bool)
  | [] => some []
  | s :: ss =>
    match bitOf s, bitsOf ss with
    | some b, some bs => some (b :: bs)
    | _, _ => none

/-! ## Wire rows: writing (30_encoding.md R62 to R69) -/

/-- BIT1 as the table writes it: 1111100000 (R62). -/
def bit1Wave : List Bool := List.replicate 5 true ++ List.replicate 5 false

/-- BIT0 as the table writes it: 1111111110 (R63). -/
def bit0Wave : List Bool := List.replicate 9 true ++ [false]

/-- START as the table writes it: 42 ticks high, 5 low (R64). -/
def startWave : List Bool := List.replicate 42 true ++ List.replicate 5 false

/-- The symbols of a field value, most significant bit first (R68). -/
def valueSymbols {w : Nat} (v : BitVec w) : List Symbol := (msbFirst v w).map symbolOf

/-- A value and its parity symbol. -/
def parFieldSymbols {w : Nat} (f : ParField w) : List Symbol := valueSymbols f.v ++ [symbolOf f.p]

/-- A value, its parity symbol and its acknowledge slot. -/
def ackFieldSymbols {w : Nat} (f : AckField w) : List Symbol :=
  valueSymbols f.v ++ [symbolOf f.p, symbolOf f.k]

/-- The data fields of a frame in index order (20_memory.md R48). -/
def dataFieldSymbols (ds : List (AckField 8)) : List Symbol := ds.flatMap ackFieldSymbols

/-- A whole frame (R67). -/
def frameSymbols (m : Bool) (a : ParField 12) (b : AckField 12) (c : AckField 4) (l : AckField 8)
    (ds : List (AckField 8)) : List Symbol :=
  .start :: symbolOf m :: (parFieldSymbols a ++ (ackFieldSymbols b ++ (ackFieldSymbols c ++
    (ackFieldSymbols l ++ dataFieldSymbols ds))))

/-! ## Wire rows: reading -/

/-- Reads a wire symbol by the table's waveforms (R62 to R65). DESIGN CHOICE (log 22): it does so whatever the timing
record is, where the spec does not say how the table's fixed forms read under values other than the source's
(00_scope.md R7, R16); the row read then lasts as the record says. -/
def decodeSymbol (slot : Bool) (wave : List Bool) : Except DecodeError Instr :=
  if wave = bit1Wave then .ok (if slot then .ackSlotNotAcked else .bit1)
  else if wave = bit0Wave then .ok (if slot then .ackSlotAcked else .bit0)
  else if wave = startWave ∧ slot = false then .ok .start
  else .error .notASymbol

/-- Reads w value bits and a parity bit, and nothing more. -/
def readParField (w : Nat) (bs : List Bool) : Option (ParField w) :=
  match bs.drop w with
  | [p] => some ⟨ofMsbFirst w (bs.take w), p⟩
  | _ => none

/-- Reads w value bits, a parity bit and a slot, and nothing more. -/
def readAckField (w : Nat) (bs : List Bool) : Option (AckField w) :=
  match bs.drop w with
  | [p, k] => some ⟨ofMsbFirst w (bs.take w), p, k⟩
  | _ => none

/-- Reads data fields, ten bits each, to the end of the string. -/
def readDataFields : List Bool → Option (List (AckField 8))
  | [] => some []
  | d7 :: d6 :: d5 :: d4 :: d3 :: d2 :: d1 :: d0 :: p :: k :: rest =>
    (readDataFields rest).map (⟨ofMsbFirst 8 [d7, d6, d5, d4, d3, d2, d1, d0], p, k⟩ :: ·)
  | _ => none

/-- The instruction of a field read, or the named rejection. -/
def fieldOr (i : Option Instr) : Except DecodeError Instr :=
  match i with
  | some i => .ok i
  | none => .error .notAField

/-- Reads the bits of the field named. START and NONE are no fields. -/
def decodeFieldBits (f : FieldCode) (bs : List Bool) : Except DecodeError Instr :=
  match f with
  | .mode =>
    match bs with
    | [m] => .ok (.fieldMode m)
    | _ => .error .notAField
  | .master => fieldOr ((readParField 12 bs).map .fieldMaster)
  | .slave => fieldOr ((readAckField 12 bs).map .fieldSlave)
  | .control => fieldOr ((readAckField 4 bs).map .fieldControl)
  | .length => fieldOr ((readAckField 8 bs).map .fieldLength)
  | .data => fieldOr ((readAckField 8 bs).map .fieldData)
  | .none => .error .notAField
  | .start => .error .notAField

/-- Reads a wire field. -/
def decodeField (f : FieldCode) (ss : List Symbol) : Except DecodeError Instr :=
  match bitsOf ss with
  | some bs => decodeFieldBits f bs
  | none => .error .notAField

/-- Reads the bits of a frame after its START and mode: 13 of the master, 14 of the slave, 6 of the
control, 10 of the length, then the data fields, as many as the length says (30_encoding.md R67, R80). -/
def readFrame (m : Bool) (bs : List Bool) : Option Instr :=
  match readParField 12 (bs.take 13), readAckField 12 ((bs.drop 13).take 14),
      readAckField 4 ((bs.drop 27).take 6), readAckField 8 ((bs.drop 33).take 10),
      readDataFields (bs.drop 43) with
  | some a, some b, some c, some l, some ds =>
    if ds.length = l.v.toNat then some (.frame m a b c l ds) else none
  | _, _, _, _, _ => none

/-- Reads a whole frame. -/
def decodeFrame (ss : List Symbol) : Except DecodeError Instr :=
  match ss with
  | .start :: rest =>
    match bitsOf rest with
    | some (m :: bs) =>
      match readFrame m bs with
      | some i => .ok i
      | none => .error .notAFrame
    | _ => .error .notAFrame
  | _ => .error .notAFrame

/-! ## Host operation words (30_encoding.md R75, R82, R83) -/

/-- A host operation word: DIR, ADDR, DATA. -/
def hostWord (dir : Bool) (a : RegAddr) (v : Reg16) : HostWord := BitVec.ofBool dir ++ a ++ v

/-- DIR, bit 23: 1 = write. -/
def hostDir (w : HostWord) : Bool := w.getLsbD 23

/-- ADDR, bits 22:16. -/
def hostAddr (w : HostWord) : RegAddr := w.extractLsb' 16 7

/-- DATA, bits 15:0. -/
def hostData (w : HostWord) : Reg16 := w.extractLsb' 0 16

/-- The index of TXB_DATA[i] and FR_DATA[i]: the low five bits of the address. -/
def dataIndex (a : RegAddr) : BitVec 5 := a.extractLsb' 0 5

/-- The address of TXB_DATA[i]: 0x20 + i. -/
def txbDataAddr (i : BitVec 5) : RegAddr := 1#2 ++ i

/-- The address of FR_DATA[i]: 0x60 + i. -/
def frDataAddr (i : BitVec 5) : RegAddr := 3#2 ++ i

/-- The row of a write to an address (30_encoding.md R75, R78). -/
def decodeWr (a : RegAddr) (v : Reg16) : Instr :=
  if a.extractLsb' 5 2 = 1#2 then .wrTxbDataI (dataIndex a) v
  else if a.extractLsb' 5 2 = 3#2 then .wrFrDataI (dataIndex a) v
  else if a = 0x00#7 then .wrCtrl v
  else if a = 0x01#7 then .wrStatus v
  else if a = 0x02#7 then .wrTxResult v
  else if a = 0x03#7 then .wrRxResult v
  else if a = 0x04#7 then .wrOwnAddr v
  else if a = 0x05#7 then .wrPeerAddr v
  else if a = 0x06#7 then .wrBcastAddr v
  else if a = 0x07#7 then .wrCtrlFlags v
  else if a = 0x08#7 then .wrRegTsLo v
  else if a = 0x09#7 then .wrRegTsHi v
  else if a = 0x0F#7 then .wrCmd v
  else if a = 0x10#7 then .wrTxbMode v
  else if a = 0x11#7 then .wrTxbMaster v
  else if a = 0x12#7 then .wrTxbSlave v
  else if a = 0x13#7 then .wrTxbCtrl v
  else if a = 0x14#7 then .wrTxbLen v
  else if a = 0x40#7 then .wrFrMode v
  else if a = 0x41#7 then .wrFrMaster v
  else if a = 0x42#7 then .wrFrSlave v
  else if a = 0x43#7 then .wrFrCtrl v
  else if a = 0x44#7 then .wrFrLen v
  else .wrRdReserved true a v

/-- The row of a read of an address (30_encoding.md R75, R78); a read's DATA is ignored (R82), and only the
row of the reserved addresses keeps it. -/
def decodeRd (a : RegAddr) (v : Reg16) : Instr :=
  if a.extractLsb' 5 2 = 1#2 then .rdTxbDataI (dataIndex a)
  else if a.extractLsb' 5 2 = 3#2 then .rdFrDataI (dataIndex a)
  else if a = 0x00#7 then .rdCtrl
  else if a = 0x01#7 then .rdStatus
  else if a = 0x02#7 then .rdTxResult
  else if a = 0x03#7 then .rdRxResult
  else if a = 0x04#7 then .rdOwnAddr
  else if a = 0x05#7 then .rdPeerAddr
  else if a = 0x06#7 then .rdBcastAddr
  else if a = 0x07#7 then .rdCtrlFlags
  else if a = 0x08#7 then .rdRegTsLo
  else if a = 0x09#7 then .rdRegTsHi
  else if a = 0x0F#7 then .rdCmd
  else if a = 0x10#7 then .rdTxbMode
  else if a = 0x11#7 then .rdTxbMaster
  else if a = 0x12#7 then .rdTxbSlave
  else if a = 0x13#7 then .rdTxbCtrl
  else if a = 0x14#7 then .rdTxbLen
  else if a = 0x40#7 then .rdFrMode
  else if a = 0x41#7 then .rdFrMaster
  else if a = 0x42#7 then .rdFrSlave
  else if a = 0x43#7 then .rdFrCtrl
  else if a = 0x44#7 then .rdFrLen
  else .wrRdReserved false a v

/-- Reads a host operation word: every word is one (30_encoding.md R85). -/
def decodeHost (w : HostWord) : Instr :=
  if hostDir w then decodeWr (hostAddr w) (hostData w) else decodeRd (hostAddr w) (hostData w)

/-! ## Pseudo-instructions (30_encoding.md R84) -/

/-- The word of `WR CMD, 0x0001`. -/
def txgoWord : HostWord := 0x8F0001#24

/-- A write of an n-bit operand to the register that DIR and ADDR, as one byte, name. DESIGN CHOICE (log 19): the
operands of SEND and CONFIG have the widths of the registers they go to; R84 gives no width. -/
def operandWord (top : BitVec 8) {n : Nat} (v : BitVec n) : HostWord := top ++ v.setWidth 16

/-- Reads the n-bit operand of such a word, if the word is one. DESIGN CHOICE (log 19): a word of a group with a bit
set above the register's implemented bits is no such word, where R84 gives no operand width; the group is then no row's
(`notAPseudo`) and runs as its words, which drop these bits (R85, log 21). -/
def readOperand (top : BitVec 8) (n : Nat) (w : HostWord) : Option (BitVec n) :=
  if w = operandWord top (w.setWidth n) then some (w.setWidth n) else none

/-- `WR TXB_DATA[i], d` for the bytes of a list, from index i on. -/
def dataWords (i : Nat) : List Byte → List HostWord
  | [] => []
  | d :: ds => operandWord (BitVec.ofNat 8 (0xA0 + i)) d :: dataWords (i + 1) ds

/-- The words of SEND. -/
def sendWords (m : Bool) (ma sa : Addr12) (c : Nibble) (ds : List Byte) : List HostWord :=
  operandWord 0x90#8 (BitVec.ofBool m) :: operandWord 0x91#8 ma :: operandWord 0x92#8 sa ::
    operandWord 0x93#8 c ::
    (dataWords 0 ds ++ [operandWord 0x94#8 (BitVec.ofNat 8 ds.length), txgoWord])

/-- The words of CONFIG. -/
def configWords (own peer bcast : Addr12) (flags : Nibble) : List HostWord :=
  [operandWord 0x84#8 own, operandWord 0x85#8 peer, operandWord 0x86#8 bcast, operandWord 0x87#8 flags]

/-- The word of CTRLSET: `WR CTRL, (e << 1) | f`. -/
def ctrlsetWord (f e : Bool) : HostWord := operandWord 0x80#8 (BitVec.ofBool e ++ BitVec.ofBool f)

/-- Reads the rest of a SEND from data index i on: the data words, then TXB_LEN with their number, then
TXGO. -/
def readSendTail (i : Nat) : List HostWord → Option (List Byte)
  | [] => none
  | w :: ws =>
    if w = operandWord 0x94#8 (BitVec.ofNat 8 i) ∧ ws = [txgoWord] then some []
    else if i < maxData then
      match readOperand (BitVec.ofNat 8 (0xA0 + i)) 8 w, readSendTail (i + 1) ws with
      | some d, some ds => some (d :: ds)
      | _, _ => none
    else none

/-- Reads the one-word pseudo-instructions, TXGO and CTRLSET. -/
def readOneWord (w : HostWord) : Option Instr :=
  if w = txgoWord then some .txgo
  else (readOperand 0x80#8 2 w).map fun v => .ctrlset (v.getLsbD 0) (v.getLsbD 1)

/-- Reads CONFIG. -/
def readConfig (w0 w1 w2 w3 : HostWord) : Option Instr :=
  match readOperand 0x84#8 12 w0, readOperand 0x85#8 12 w1, readOperand 0x86#8 12 w2,
      readOperand 0x87#8 4 w3 with
  | some own, some peer, some bcast, some flags => some (.config own peer bcast flags)
  | _, _, _, _ => none

/-- Reads SEND. -/
def readSend (w0 w1 w2 w3 : HostWord) (ws : List HostWord) : Option Instr :=
  match readOperand 0x90#8 1 w0, readOperand 0x91#8 12 w1, readOperand 0x92#8 12 w2,
      readOperand 0x93#8 4 w3, readSendTail 0 ws with
  | some m, some ma, some sa, some c, some ds => some (.send (m.getLsbD 0) ma sa c ds)
  | _, _, _, _, _ => none

/-- The pseudo-instruction whose expansion the words are, if any. -/
def readPseudo : List HostWord → Option Instr
  | [w] => readOneWord w
  | [w0, w1, w2, w3] => readConfig w0 w1 w2 w3
  | w0 :: w1 :: w2 :: w3 :: ws => readSend w0 w1 w2 w3 ws
  | _ => none

/-- Reads a pseudo-instruction. -/
def decodePseudo (ws : List HostWord) : Except DecodeError Instr :=
  match readPseudo ws with
  | some i => .ok i
  | none => .error .notAPseudo

/-! ## The decoder and the encoder -/

/-- The instruction of an encoded form, or why it is none. -/
def decode : Code → Except DecodeError Instr
  | .symbol slot wave => decodeSymbol slot wave
  | .field f ss => decodeField f ss
  | .frame ss => decodeFrame ss
  | .host w => .ok (decodeHost w)
  | .pseudo ws => decodePseudo ws

/-- The encoded form of a well-formed instruction. -/
def encode : Instr → Code
  | .bit1 => .symbol false bit1Wave
  | .bit0 => .symbol false bit0Wave
  | .start => .symbol false startWave
  | .ackSlotNotAcked => .symbol true bit1Wave
  | .ackSlotAcked => .symbol true bit0Wave
  | .fieldMode m => .field .mode [symbolOf m]
  | .fieldMaster a => .field .master (parFieldSymbols a)
  | .fieldSlave a => .field .slave (ackFieldSymbols a)
  | .fieldControl c => .field .control (ackFieldSymbols c)
  | .fieldLength l => .field .length (ackFieldSymbols l)
  | .fieldData d => .field .data (ackFieldSymbols d)
  | .frame m a b c l ds => .frame (frameSymbols m a b c l ds)
  | .wrCtrl v => .host (hostWord true 0x00#7 v)
  | .rdCtrl => .host (hostWord false 0x00#7 0)
  | .wrStatus v => .host (hostWord true 0x01#7 v)
  | .rdStatus => .host (hostWord false 0x01#7 0)
  | .wrTxResult v => .host (hostWord true 0x02#7 v)
  | .rdTxResult => .host (hostWord false 0x02#7 0)
  | .wrRxResult v => .host (hostWord true 0x03#7 v)
  | .rdRxResult => .host (hostWord false 0x03#7 0)
  | .wrOwnAddr v => .host (hostWord true 0x04#7 v)
  | .rdOwnAddr => .host (hostWord false 0x04#7 0)
  | .wrPeerAddr v => .host (hostWord true 0x05#7 v)
  | .rdPeerAddr => .host (hostWord false 0x05#7 0)
  | .wrBcastAddr v => .host (hostWord true 0x06#7 v)
  | .rdBcastAddr => .host (hostWord false 0x06#7 0)
  | .wrCtrlFlags v => .host (hostWord true 0x07#7 v)
  | .rdCtrlFlags => .host (hostWord false 0x07#7 0)
  | .wrRegTsLo v => .host (hostWord true 0x08#7 v)
  | .rdRegTsLo => .host (hostWord false 0x08#7 0)
  | .wrRegTsHi v => .host (hostWord true 0x09#7 v)
  | .rdRegTsHi => .host (hostWord false 0x09#7 0)
  | .wrCmd v => .host (hostWord true 0x0F#7 v)
  | .rdCmd => .host (hostWord false 0x0F#7 0)
  | .wrTxbMode v => .host (hostWord true 0x10#7 v)
  | .rdTxbMode => .host (hostWord false 0x10#7 0)
  | .wrTxbMaster v => .host (hostWord true 0x11#7 v)
  | .rdTxbMaster => .host (hostWord false 0x11#7 0)
  | .wrTxbSlave v => .host (hostWord true 0x12#7 v)
  | .rdTxbSlave => .host (hostWord false 0x12#7 0)
  | .wrTxbCtrl v => .host (hostWord true 0x13#7 v)
  | .rdTxbCtrl => .host (hostWord false 0x13#7 0)
  | .wrTxbLen v => .host (hostWord true 0x14#7 v)
  | .rdTxbLen => .host (hostWord false 0x14#7 0)
  | .wrFrMode v => .host (hostWord true 0x40#7 v)
  | .rdFrMode => .host (hostWord false 0x40#7 0)
  | .wrFrMaster v => .host (hostWord true 0x41#7 v)
  | .rdFrMaster => .host (hostWord false 0x41#7 0)
  | .wrFrSlave v => .host (hostWord true 0x42#7 v)
  | .rdFrSlave => .host (hostWord false 0x42#7 0)
  | .wrFrCtrl v => .host (hostWord true 0x43#7 v)
  | .rdFrCtrl => .host (hostWord false 0x43#7 0)
  | .wrFrLen v => .host (hostWord true 0x44#7 v)
  | .rdFrLen => .host (hostWord false 0x44#7 0)
  | .wrTxbDataI i v => .host (hostWord true (txbDataAddr i) v)
  | .rdTxbDataI i => .host (hostWord false (txbDataAddr i) 0)
  | .wrFrDataI i v => .host (hostWord true (frDataAddr i) v)
  | .rdFrDataI i => .host (hostWord false (frDataAddr i) 0)
  | .wrRdReserved dir a v => .host (hostWord dir a v)
  | .txgo => .pseudo [txgoWord]
  | .send m ma sa c ds => .pseudo (sendWords m ma sa c ds)
  | .config own peer bcast flags => .pseudo (configWords own peer bcast flags)
  | .ctrlset f e => .pseudo [ctrlsetWord f e]

/-! ## A row's bits as the table numbers them -/

/-- The low n bits of a number, most significant first. -/
def natBits (w : Nat) : Nat → List Bool
  | 0 => []
  | n + 1 => w.testBit n :: natBits w n

/-- The first n 24-bit words of a number, the first word its least significant bits. -/
def natWords (w : Nat) : Nat → List HostWord
  | 0 => []
  | n + 1 => BitVec.ofNat 24 w :: natWords (w / 2 ^ 24) n

/-- The encoded form of a row of `nbits` bits whose value is `w`, in the layout its format has: a 24-bit row
is one host operation word, and the pseudo-instruction's form where it is the word of TXGO or CTRLSET, whose
rows fix more bits than the register's row; several 24-bit words are a pseudo-instruction; 10 bits (16 in
whole bytes) are a symbol of one bit period, 47 (48) a START, leftmost tick most significant (log 7). -/
def tableCode (nbits w : Nat) : Option Code :=
  if nbits = 24 then
    match readOneWord (BitVec.ofNat 24 w) with
    | some _ => some (.pseudo [BitVec.ofNat 24 w])
    | none => some (.host (BitVec.ofNat 24 w))
  else if nbits = 10 ∨ nbits = 16 then some (.symbol false (natBits w 10))
  else if nbits = 47 ∨ nbits = 48 then some (.symbol false (natBits w 47))
  else if nbits % 24 = 0 then some (.pseudo (natWords w (nbits / 24)))
  else none

/-- The instruction the decoder reads from a row's bits. -/
def decodeTableWord (nbits w : Nat) : Option Instr :=
  match tableCode nbits w with
  | some c =>
    match decode c with
    | .ok i => some i
    | .error _ => none
  | none => none

end Sys2Proof
end

