-- ==== Sys2Proof/Machine/State.lean ====
section
/-! DEFINITION. The state of the block (10_state.md), as plain data: every register, buffer and port output
the spec gives it, under the spec's names, and the model's own fields for the inputs still to come and the
outputs so far. The state right after reset is 10_state.md R43. -/

namespace Sys2Proof.Machine

/-- PHASE, the control state: exactly the nine codes that are ever held (10_state.md R22, 40_step.md R89). -/
inductive Phase where
  | idle | startMeas | rxWaithigh | rxMeas | rxRemain | rxAckdrive | arb | txBit | txAck
deriving DecidableEq, Repr

/-- ELEM: the element (EF, EK) being sent or received, or END, which is no element (10_state.md R24,
40_step.md R90). END holds no field code: no arm reads ELEM then (log 11). -/
inductive Elem where
  | el (f : FieldCode) (k : Kind)
  | fin
deriving DecidableEq, Repr

/-- A frame store: FRAME and TXB have the same fields (10_state.md R30, R32). -/
structure FrameBuf where
  mode : Bool
  master : Addr12
  slave : Addr12
  ctrl : Nibble
  len : Byte
  data : Vector Byte 32
deriving DecidableEq, Repr

/-- What diag_dump carries (60_exceptions.md R201). -/
structure Dump where
  mode : Bool
  master : Addr12
  slave : Addr12
  ctrl : Nibble
  len : Byte
  data : List Byte
deriving DecidableEq, Repr

/-- The events of a step (60_exceptions.md R199). -/
inductive Event where
  | txDone (r : Reg16)
  | rxDone (r : Reg16)
  | rxValid
  | diagDump (d : Dump)
  | diagErr (r : Reg16)
  | wdtKick
deriving DecidableEq, Repr

/-- The names of the events, as WAIT uses them (30_encoding.md R83). -/
inductive EventName where
  | txDone | rxDone | rxValid | diagDump | diagErr | wdtKick
deriving DecidableEq, Repr

/-- The inputs of one tick (40_step.md R86, 70_reset_and_hazards.md R206): the reset input, the other nodes'
drive, the host operations in issue order, the timestamp. -/
structure TickIn where
  rst : Bool
  ext : Bool
  ops : List HostWord
  ts : Stamp
deriving DecidableEq, Repr

/-- What is scheduled to reach the block next (log 1, log 2). -/
inductive Input where
  /-- An encoded instruction: a host operation or pseudo-instruction of the current tick, or what passes on
  the line from the current tick on. -/
  | code (c : Code)
  /-- The rest of the current tick, with its inputs given. -/
  | cycle (t : TickIn)
  /-- TICKS n: n ticks pass with no host operation, after the current one if it has an operation
  (30_encoding.md R83). -/
  | ticks (n : Nat)
  /-- WAIT e: ticks pass until the block emits e (30_encoding.md R83). -/
  | wait (e : EventName)
deriving DecidableEq, Repr

/-- Why a step stops. Raised by a step that sets FAULT; answered by every later step (40_step.md R94). -/
inductive Fault where
  /-- LengthOverflow: a frame length above 32 is copied by StartHostTx or received with good parity
  (60_exceptions.md R193). Raised by `startHostTx` and `rxDeliver`. Safe: the spec gives the case no
  behaviour and names this stop. -/
  | lengthOverflow
  /-- No rule covers the state: an arm would have to read an ELEM or a data index that no run from reset
  holds there. Raised by the arms of `Machine/`. Safe: no rule gives such a state an effect (log 10). -/
  | noRule
deriving DecidableEq, Repr

/-- Why an input gets no meaning. Every row has one, and a scheduled form that is no row's runs as what it is made
of (30_encoding.md R79, R85), so no step of this model is refused. -/
inductive Refusal where
  /-- An instruction with no meaning yet. Raised by exec's refused arms only, of which there is none. Safe. -/
  | notModelled (mnemonic : String)
deriving DecidableEq, Repr

/-- The state of the block. -/
structure State where
  /-- The parameters of 00_scope.md R7 to R9: the model's own field, never written (10_state.md R44, log 4). -/
  par : Params
  /-- BUS_OUT (R21) -/
  busOut : Bool
  /-- PHASE (R22) -/
  phase : Phase
  /-- CNT (R23) -/
  cnt : BitVec 16
  /-- ELEM (R24) -/
  elem : Elem
  /-- NBITS (R24) -/
  nbits : BitVec 4
  /-- DIDX (R24) -/
  didx : BitVec 8
  /-- SHIFT (R25) -/
  shift : BitVec 12
  /-- PAR (R26) -/
  parity : Bool
  /-- HOLD (R27) -/
  hold : BitVec 6
  /-- PER (R27) -/
  per : BitVec 6
  /-- MEAS (R28) -/
  meas : Bool
  /-- ACKED (R28) -/
  acked : Bool
  /-- FORME (R29) -/
  forme : Bool
  /-- FRAME (R30) -/
  frame : FrameBuf
  /-- TXB (R32) -/
  txb : FrameBuf
  /-- TX_PENDING (R33) -/
  txPending : Bool
  /-- RESP_ACTIVE (R34) -/
  respActive : Bool
  /-- REGISTERED (R35) -/
  registered : Bool
  /-- REG_TS (R36) -/
  regTs : Stamp
  /-- TX_RESULT (R37) -/
  txResult : Reg16
  /-- RX_RESULT (R38) -/
  rxResult : Reg16
  /-- OWN_ADDR (R39) -/
  ownAddr : Addr12
  /-- PEER_ADDR (R39) -/
  peerAddr : Addr12
  /-- BCAST_ADDR (R39) -/
  bcastAddr : Addr12
  /-- CTRL_FLAGS (R39) -/
  ctrlFlags : Nibble
  /-- FILTER_EN (R40) -/
  filterEn : Bool
  /-- ERRLOG_EN (R40) -/
  errlogEn : Bool
  /-- WDTCNT (R41) -/
  wdtcnt : BitVec 16
  /-- FAULT (R42) -/
  fault : Option Fault
  /-- The number of the current tick (00_scope.md R11): the model's own field (log 3). -/
  time : Nat
  /-- The inputs still to come: the model's own field (log 2). -/
  feed : List Input
  /-- The tick in which the host last issued a row, if it did: the model's own field. TICKS reads it, since
  a tick with an operation is none of those it lets pass (log 16, log 20). -/
  opTick : Option Nat
  /-- Every event emitted, with its tick: the model's own field for the outputs of 40_step.md R86 (log 14). -/
  events : List (Nat × Event)
  /-- Every host read result, with its tick: the model's own field, as `events`. -/
  reads : List (Nat × Reg16)
deriving DecidableEq, Repr

/-- A frame store with every field 0. -/
def FrameBuf.zero : FrameBuf where
  mode := false
  master := 0
  slave := 0
  ctrl := 0
  len := 0
  data := Vector.replicate 32 0

/-- The reset state of 10_state.md R43 under given parameters, at tick 0, with nothing scheduled and nothing
put out yet. -/
def State.resetWith (p : Params) : State where
  par := p
  busOut := false
  phase := .idle
  cnt := 0
  elem := .el .none .val
  nbits := 0
  didx := 0
  shift := 0
  parity := false
  hold := 0
  per := 0
  meas := false
  acked := false
  forme := false
  frame := .zero
  txb := .zero
  txPending := false
  respActive := false
  registered := false
  regTs := 0
  txResult := 0
  rxResult := 0
  ownAddr := p.resetOwnAddr
  peerAddr := p.resetPeerAddr
  bcastAddr := p.resetBcastAddr
  ctrlFlags := p.resetCtrlFlags
  filterEn := false
  errlogEn := false
  wdtcnt := 0
  fault := none
  time := 0
  feed := []
  opTick := none
  events := []
  reads := []

/-- The machine right after power-on reset (10_state.md R43, 70_reset_and_hazards.md R206, R207). -/
def State.reset : State := State.resetWith Config.params

end Sys2Proof.Machine
end

