-- ==== Sys2Proof/Machine/Flags.lean ====
section
/-! DEFINITION. What the block computes from values: parity, the mode test, the counter's saturation, the
timeout test, the result and status layouts (30_encoding.md R68 to R74, 40_step.md R96). -/

namespace Sys2Proof.Machine

/-- Parity(v): the XOR of the bits (00_scope.md R13, 41_bitcodec.md R102). -/
def parityOf {w : Nat} (v : BitVec w) : Bool := (msbFirst v w).foldl (· ^^ ·) false

/-- IsBroadcast(m) (00_scope.md R13). -/
def isBroadcast (p : Params) (m : Bool) : Bool := m == p.modeBcastBit

/-- sat16 (00_scope.md R10). -/
def sat16 (n : Nat) : BitVec 16 := BitVec.ofNat 16 (min n 0xFFFF)

/-- CNT + 1, saturating (40_step.md R96). -/
def satInc (c : BitVec 16) : BitVec 16 := sat16 (c.toNat + 1)

/-- EDGE_TIMEOUT ≠ none and n ≥ EDGE_TIMEOUT (60_exceptions.md R190). A legal EDGE_TIMEOUT is at least
T_START (70_reset_and_hazards.md R225), so the first test changes nothing (log 12). -/
def timedOut (p : Params) (n : Nat) : Bool :=
  decide (p.tStart ≤ n) &&
    match p.edgeTimeout with
    | none => false
    | some t => decide (t ≤ n)

/-- Field codes as numbers (30_encoding.md R70). -/
def fieldNum : FieldCode → BitVec 3
  | .none => 0
  | .start => 1
  | .mode => 2
  | .master => 3
  | .slave => 4
  | .control => 5
  | .length => 6
  | .data => 7

/-- PHASE codes as numbers (10_state.md R22). -/
def phaseNum : Phase → BitVec 4
  | .idle => 0
  | .startMeas => 1
  | .rxWaithigh => 2
  | .rxMeas => 3
  | .rxRemain => 4
  | .rxAckdrive => 5
  | .arb => 6
  | .txBit => 7
  | .txAck => 8

/-- The KINDs a transmit pass ends with (30_encoding.md R71); NONE is the result 0. -/
inductive TxKind where
  | ok | nak | timeout
deriving DecidableEq, Repr

/-- The KINDs a receive pass ends with (30_encoding.md R72); NONE is the result 0. -/
inductive RxKind where
  | delivered | filtered | responded | parityError | malformedStart | timeout
deriving DecidableEq, Repr

/-- TX_RESULT KIND codes (30_encoding.md R71). -/
def txKindNum : TxKind → BitVec 4
  | .ok => 1
  | .nak => 2
  | .timeout => 3

/-- RX_RESULT KIND codes (30_encoding.md R72). -/
def rxKindNum : RxKind → BitVec 4
  | .delivered => 1
  | .filtered => 2
  | .responded => 3
  | .parityError => 4
  | .malformedStart => 5
  | .timeout => 6

/-- The receive ends that are errors (45_frame_receive.md R160). -/
def rxKindIsError : RxKind → Bool
  | .delivered => false
  | .filtered => false
  | .responded => false
  | .parityError => true
  | .malformedStart => true
  | .timeout => true

/-- A result register: KIND [3:0], FIELD [6:4], 0 at 7, INDEX [15:8] (30_encoding.md R73). -/
def resultWord (kind : BitVec 4) (f : FieldCode) (index : Byte) : Reg16 :=
  index ++ 0#1 ++ fieldNum f ++ kind

/-- INDEX: the data byte index when FIELD is DATA, else 0 (30_encoding.md R73). -/
def errIndex (f : FieldCode) (didx : Byte) : Byte := if f = .data then didx else 0

/-- STATUS (30_encoding.md R74, 46_host_interface.md R175). -/
def statusWord (s : State) : Reg16 :=
  0#8 ++ phaseNum s.phase ++ BitVec.ofBool s.respActive ++ BitVec.ofBool s.registered ++
    BitVec.ofBool s.txPending ++ BitVec.ofBool (decide (s.phase ≠ .idle))

end Sys2Proof.Machine
end

