-- ==== Sys2Proof/Machine/Operands.lean ====
section
/-! DEFINITION. The operands of the block's operations: field widths, the field values of FRAME, the element
sequence (40_step.md R90, R91), and a frame's content as diag_dump carries it. -/

namespace Sys2Proof.Machine

/-- Width(F) (40_step.md R91). NONE and START carry no value bits. -/
def fieldWidth : FieldCode → Nat
  | .none => 0
  | .start => 0
  | .mode => 1
  | .master => 12
  | .slave => 12
  | .control => 4
  | .length => 8
  | .data => 8

/-- FieldValue(F) of a frame, zero-extended to 12 bits (40_step.md R91, 41_bitcodec.md R100). No rule gives
NONE, START or a data index above 31 a value (log 10). -/
def fieldValue (fr : FrameBuf) (didx : Byte) (f : FieldCode) : Option (BitVec 12) :=
  match f with
  | .none => none
  | .start => none
  | .mode => some ((BitVec.ofBool fr.mode).setWidth 12)
  | .master => some fr.master
  | .slave => some fr.slave
  | .control => some (fr.ctrl.setWidth 12)
  | .length => some (fr.len.setWidth 12)
  | .data => (fr.data[didx.toNat]?).map (·.setWidth 12)

/-- StoreField(F, v): FRAME with the low Width(F) bits of v in F's field (40_step.md R91). No rule gives it
for NONE, START or a data index above 31 (log 10). -/
def storeField (fr : FrameBuf) (didx : Byte) (f : FieldCode) (v : BitVec 12) : Option FrameBuf :=
  match f with
  | .none => none
  | .start => none
  | .mode => some { fr with mode := v.getLsbD 0 }
  | .master => some { fr with master := v }
  | .slave => some { fr with slave := v }
  | .control => some { fr with ctrl := v.setWidth 4 }
  | .length => some { fr with len := v.setWidth 8 }
  | .data =>
    if didx.toNat < maxData then
      some { fr with data := fr.data.setIfInBounds didx.toNat (v.setWidth 8) }
    else none

/-- NextElem: the element after ELEM, with DIDX as it leaves it (40_step.md R90). None where the sequence
has no such element (log 10). -/
def nextElem (e : Elem) (didx len : Byte) : Option (Elem × Byte) :=
  match e with
  | .el .start .val => some (.el .mode .val, didx)
  | .el .mode .val => some (.el .master .val, didx)
  | .el .master .val => some (.el .master .par, didx)
  | .el .slave .val => some (.el .slave .par, didx)
  | .el .control .val => some (.el .control .par, didx)
  | .el .length .val => some (.el .length .par, didx)
  | .el .data .val => some (.el .data .par, didx)
  | .el .master .par => some (.el .slave .val, didx)
  | .el .slave .par => some (.el .slave .ack, didx)
  | .el .control .par => some (.el .control .ack, didx)
  | .el .length .par => some (.el .length .ack, didx)
  | .el .data .par => some (.el .data .ack, didx)
  | .el .slave .ack => some (.el .control .val, didx)
  | .el .control .ack => some (.el .length .val, didx)
  | .el .length .ack => if len = 0 then some (.fin, didx) else some (.el .data .val, 0)
  | .el .data .ack =>
    if didx.toNat + 1 < len.toNat then some (.el .data .val, didx + 1) else some (.fin, didx)
  | .el .none _ => none
  | .el .start .par => none
  | .el .start .ack => none
  | .el .mode .par => none
  | .el .mode .ack => none
  | .el .master .ack => none
  | .fin => none

/-- The content of diag_dump: the fields and the first FR_LEN data bytes (60_exceptions.md R201). -/
def dumpOf (fr : FrameBuf) : Dump where
  mode := fr.mode
  master := fr.master
  slave := fr.slave
  ctrl := fr.ctrl
  len := fr.len
  data := fr.data.toList.take fr.len.toNat

end Sys2Proof.Machine
end

