-- ==== Sys2Proof/Machine/Ops.lean ====
section
/-! DEFINITION. The operations every family shares: events, the model fault, and the end of a pass. Ending a
pass in error is the block's one kind of exception (60_exceptions.md R191): it writes the result register,
emits its events, releases the line and returns to IDLE, in one step, saving nothing. It has no return
(R192): the next tick is an ordinary IDLE step. -/

namespace Sys2Proof.Machine

/-- Puts events on the current tick's output, in order (60_exceptions.md R199). -/
def stamped (t : Nat) (es : List Event) : List (Nat × Event) := es.map fun e => (t, e)

/-- emit ev (00_scope.md R11). -/
def emit (es : List Event) (s : State) : State :=
  { s with events := s.events ++ stamped s.time es }

/-- raise Fault(reason): FAULT is set and the step ends (40_step.md R94). -/
def raise (r : Fault) (s : State) : State := { s with fault := some r }

/-- The events of an error or plain end of a receive pass (45_frame_receive.md R160). -/
def rxEndEvents (kind : RxKind) (r : Reg16) (errlog : Bool) : List Event :=
  .rxDone r :: (if rxKindIsError kind && errlog then [.diagErr r] else [])

/-- RxEnd (45_frame_receive.md R160). -/
def rxEnd (kind : RxKind) (f : FieldCode) (index : Byte) (s : State) : State :=
  { s with
    rxResult := resultWord (rxKindNum kind) f index
    events := s.events ++
      stamped s.time (rxEndEvents kind (resultWord (rxKindNum kind) f index) s.errlogEn)
    phase := .idle
    cnt := 0
    busOut := false }

/-- The events of a transmit pass's end (44_frame_transmit.md R143). -/
def txEndEvents (kind : TxKind) (r : Reg16) (errlog : Bool) (fr : FrameBuf) : List Event :=
  .txDone r ::
    (match kind with
     | .ok => [.diagDump (dumpOf fr)]
     | .nak => if errlog then [.diagErr r] else []
     | .timeout => if errlog then [.diagErr r] else [])

/-- TxEnd (44_frame_transmit.md R143, R145); ts is ts_in. -/
def txEnd (kind : TxKind) (f : FieldCode) (index : Byte) (ts : Stamp) (s : State) : State :=
  { s with
    txResult := resultWord (txKindNum kind) f index
    events := s.events ++
      stamped s.time (txEndEvents kind (resultWord (txKindNum kind) f index) s.errlogEn s.frame)
    registered := s.respActive || s.registered
    regTs := if s.respActive then ts else s.regTs
    respActive := false
    phase := .idle
    cnt := 0
    busOut := false }

/-- InitVal(F): prepares a receive value field (40_step.md R91). -/
def initVal (f : FieldCode) (s : State) : State :=
  { s with shift := 0, parity := false, nbits := BitVec.ofNat 4 (fieldWidth f) }

end Sys2Proof.Machine
end

