-- ==== Sys2Proof/Machine/Codec.lean ====
section
/-! DEFINITION. BitCodec (41_bitcodec.md): starting a symbol, sending a field bit by bit, accumulating a
received bit. The arms that call these are in `Transmit` and `Receive`. -/

namespace Sys2Proof.Machine

/-- EmitBit(b) (41_bitcodec.md R98). -/
def emitBit (b : Bool) (s : State) : State :=
  { s with
    hold := BitVec.ofNat 6 (if b then s.par.t1High else s.par.t0High)
    per := BitVec.ofNat 6 s.par.tBit
    cnt := 0
    busOut := true
    phase := .txBit }

/-- Takes the next bit of SHIFT, bit NBITS - 1, into PAR and sends it (41_bitcodec.md R99, R100). -/
def sendNextBit (s : State) : State :=
  emitBit (s.shift.getLsbD (s.nbits.toNat - 1))
    { s with parity := s.parity ^^ s.shift.getLsbD (s.nbits.toNat - 1), nbits := s.nbits - 1 }

/-- EncodeWord(F) (41_bitcodec.md R100). -/
def encodeWord (f : FieldCode) (s : State) : State :=
  match fieldValue s.frame s.didx f with
  | some v => sendNextBit { s with shift := v, parity := false, nbits := BitVec.ofNat 4 (fieldWidth f) }
  | none => raise .noRule s

/-- EncodeParity(F) (41_bitcodec.md R101). -/
def encodeParity (s : State) : State := emitBit s.parity s

/-- EncodeStart (42_start_arbitration.md R112). -/
def encodeStart (s : State) : State :=
  { s with
    elem := .el .start .val
    nbits := 0
    hold := BitVec.ofNat 6 s.par.tStartHigh
    per := BitVec.ofNat 6 s.par.tStart
    cnt := 0
    busOut := true
    phase := .txBit }

/-- The bit a pulse of W high ticks decodes as (30_encoding.md R66, 41_bitcodec.md R104). -/
def classify (p : Params) (w : Nat) : Bool := decide (w ≤ p.tThresh)

/-- AccumulateBit(b) (41_bitcodec.md R106). -/
def accumulateBit (b : Bool) (s : State) : State :=
  { s with
    shift := (s.shift <<< 1) ||| (BitVec.ofBool b).setWidth 12
    parity := s.parity ^^ b
    nbits := s.nbits - 1 }

end Sys2Proof.Machine
end

