-- ==== Sys2Proof/Machine/Receive.lean ====
section
/-! DEFINITION. The receive pass (45_frame_receive.md) with the start bit's classification
(42_start_arbitration.md R113 to R116), the decoder's arms (41_bitcodec.md R103 to R107) and the receiver's
acknowledge slots (43_acknowledge.md R129 to R131). -/

namespace Sys2Proof.Machine

/-! ## Finish: registration, responder, filter -/

/-- IsProbe() (45_frame_receive.md R162). -/
def isProbe (s : State) : Bool :=
  s.forme && decide (s.frame.len = 3) && decide (s.frame.data[0] = s.par.probeOpcode) &&
    decide (s.frame.data[2] = s.par.probeTerm)

/-- The data of the reply: REPLY_DATA with the token at its offset, the rest 0 (45_frame_receive.md R163). DESIGN CHOICE
(log 23): a TOKEN_OFFSET outside REPLY_DATA puts the token nowhere, where the spec gives only offset 5 of 6 bytes. -/
def replyBytes (p : Params) (token : Byte) : Vector Byte 32 :=
  Vector.ofFn fun i : Fin 32 => (p.replyData.set p.tokenOffset token).getD i.val 0

/-- The reply frame (45_frame_receive.md R163). DESIGN CHOICE (log 23): FR_LEN is the length of REPLY_DATA, where the spec
gives only 6. -/
def replyFrame (token : Byte) (s : State) : FrameBuf where
  mode := !s.par.modeBcastBit
  master := s.ownAddr
  slave := s.peerAddr
  ctrl := s.ctrlFlags
  len := BitVec.ofNat 8 s.par.replyData.length
  data := replyBytes s.par token

/-- Respond(token) (45_frame_receive.md R164). -/
def respond (token : Byte) (s : State) : State :=
  { s with
    frame := replyFrame token s
    respActive := true
    txResult := 0
    rxResult := resultWord (rxKindNum .responded) .none 0
    events := s.events ++ stamped s.time [.rxDone (resultWord (rxKindNum .responded) .none 0)]
    didx := 0
    phase := .arb
    cnt := 0
    busOut := false }

/-- The address filter: whether the frame is surfaced (45_frame_receive.md R165). -/
def surfaces (s : State) : Bool :=
  !s.filterEn || s.forme || (isBroadcast s.par s.frame.mode && decide (s.frame.slave = s.bcastAddr))

/-- Step 9, registration: a frame for this node, received in full (45_frame_receive.md R161). -/
def register (ts : Stamp) (s : State) : State :=
  { s with registered := s.forme || s.registered, regTs := if s.forme then ts else s.regTs }

/-- RxFinish after registration: respond, surface or filter (45_frame_receive.md R161, R166, R167). -/
def conclude (s : State) : State :=
  if isProbe s then respond s.frame.data[1] s
  else if surfaces s then emit [.rxValid, .diagDump (dumpOf s.frame)] (rxEnd .delivered .none 0 s)
  else rxEnd .filtered .none 0 s

/-- RxFinish() (45_frame_receive.md R161). -/
def rxFinish (ts : Stamp) (s : State) : State := conclude (register ts s)

/-! ## Delivery of decoded bits -/

/-- ELEM <- e with DIDX, and InitVal where e is a value (45_frame_receive.md R158, R159). -/
def enterElem (e : Elem) (d : Byte) (s : State) : State :=
  match e with
  | .el f .val => initVal f { s with elem := e, didx := d }
  | .el _ .par => { s with elem := e, didx := d }
  | .el _ .ack => { s with elem := e, didx := d }
  | .fin => { s with elem := e, didx := d }

/-- ELEM <- NextElem(ELEM) inside a receive pass; true while the pass continues. -/
def advanceRx (s : State) : State × Bool :=
  match nextElem s.elem s.didx s.frame.len with
  | some (e, d) => (enterElem e d s, true)
  | none => (raise .noRule s, false)

/-- AckDone() (45_frame_receive.md R159); true while the pass continues. -/
def ackDone (ts : Stamp) (s : State) : State × Bool :=
  match nextElem s.elem s.didx s.frame.len with
  | some (.fin, d) => (rxFinish ts { s with elem := .fin, didx := d }, false)
  | some (.el f k, d) => (enterElem (.el f k) d s, true)
  | none => (raise .noRule s, false)

/-- A value bit (45_frame_receive.md R158, 20_memory.md R60): the field is stored with its last bit, before
its parity is checked. -/
def deliverVal (f : FieldCode) (b : Bool) (s : State) : State × Bool :=
  if (accumulateBit b s).nbits = 0 then
    match storeField s.frame s.didx f (accumulateBit b s).shift with
    | some fr => advanceRx { accumulateBit b s with frame := fr }
    | none => (raise .noRule (accumulateBit b s), false)
  else (accumulateBit b s, true)

/-- Whether a parity error in this field clears REGISTERED (45_frame_receive.md R155 to R158). -/
def clearsRegistered (f : FieldCode) (s : State) : Bool :=
  s.forme && (decide (f = .control) || decide (f = .length) ||
    (decide (f = .data) && s.par.clearRegOnDataParity))

/-- ParityError(field): the pass ends (45_frame_receive.md R158, 60_exceptions.md R186). -/
def parityError (f : FieldCode) (s : State) : State :=
  rxEnd .parityError f (errIndex f s.didx)
    { s with registered := s.registered && !clearsRegistered f s }

/-- FORME is set where the slave field's parity is accepted (45_frame_receive.md R153). -/
def setForme (f : FieldCode) (s : State) : State :=
  { s with forme := if f = .slave then decide (s.frame.slave = s.ownAddr) else s.forme }

/-- A parity bit (45_frame_receive.md R158). The parity check comes before the length check
(60_exceptions.md R194). -/
def deliverPar (f : FieldCode) (b : Bool) (s : State) : State × Bool :=
  if b ≠ s.parity then (parityError f s, false)
  else if f = .length ∧ maxData < s.frame.len.toNat then (raise .lengthOverflow s, false)
  else advanceRx (setForme f s)

/-- RxDeliver(b) (45_frame_receive.md R158); true while the pass continues. A discarded slot's bit is
ignored (43_acknowledge.md R131). -/
def rxDeliver (b : Bool) (ts : Stamp) (s : State) : State × Bool :=
  match s.elem with
  | .el f .val => deliverVal f b s
  | .el f .par => deliverPar f b s
  | .el _ .ack => ackDone ts s
  | .fin => (raise .noRule s, false)

/-! ## The arms -/

/-- AcceptStart (42_start_arbitration.md R115). -/
def acceptStart (s : State) : State :=
  { initVal .mode s with
    frame := .zero
    forme := false
    didx := 0
    elem := .el .mode .val
    phase := .rxWaithigh
    cnt := 0 }

/-- RejectStart (42_start_arbitration.md R116). -/
def rejectStart (s : State) : State := rxEnd .malformedStart .start 0 s

/-- T_START_MIN ≤ W < T_START (42_start_arbitration.md R113, R114). -/
def startWindow (p : Params) (w : Nat) : Bool := decide (p.tStartMin ≤ w) && decide (w < p.tStart)

/-- Counts one more sample, and ends the pass if the wait has reached its bound (60_exceptions.md R190). -/
def countOrTimeout (f : FieldCode) (s : State) : State :=
  if timedOut s.par (satInc s.cnt).toNat then
    rxEnd .timeout f (errIndex f s.didx) { s with cnt := satInc s.cnt }
  else { s with cnt := satInc s.cnt }

/-- The START_MEAS arm (42_start_arbitration.md R113). -/
def armStartMeas (l : Bool) (s : State) : State :=
  if l then countOrTimeout .start s
  else if startWindow s.par s.cnt.toNat then acceptStart s
  else rejectStart s

/-- sendAck begins on the first high sample of an acknowledge slot, for the addressed receiver
(43_acknowledge.md R129). -/
def isOwnSlot (k : Kind) (s : State) : Bool := decide (k = .ack) && s.forme

/-- The RX_WAITHIGH arm (41_bitcodec.md R103). -/
def armRxWaithigh (l : Bool) (s : State) : State :=
  match s.elem with
  | .fin => raise .noRule s
  | .el f k =>
    if l then
      if isOwnSlot k s then { s with phase := .rxAckdrive, cnt := 1, busOut := true }
      else { s with phase := .rxMeas, cnt := 1 }
    else countOrTimeout f s

/-- What follows a decoded bit while the pass continues: a 0 waits out the rest of the dominant pulse
(41_bitcodec.md R104). -/
def afterBit (b : Bool) (w : Nat) (s : State) : State :=
  if !b && decide (w + 1 < s.par.tRem) then { s with phase := .rxRemain, cnt := BitVec.ofNat 16 (w + 1) }
  else { s with phase := .rxWaithigh, cnt := 0 }

/-- The state an arm leaves after RxDeliver or AckDone: `next` where the pass continues. -/
def ifContinues (r : State × Bool) (next : State → State) : State := if r.2 then next r.1 else r.1

/-- The RX_MEAS arm (41_bitcodec.md R104). -/
def armRxMeas (l : Bool) (ts : Stamp) (s : State) : State :=
  match s.elem with
  | .fin => raise .noRule s
  | .el f _ =>
    if l then countOrTimeout f s
    else
      ifContinues (rxDeliver (classify s.par s.cnt.toNat) ts s)
        (afterBit (classify s.par s.cnt.toNat) s.cnt.toNat)

/-- The RX_REMAIN arm (41_bitcodec.md R105). -/
def armRxRemain (s : State) : State :=
  if s.par.tRem ≤ (satInc s.cnt).toNat then { s with phase := .rxWaithigh, cnt := 0 }
  else { s with cnt := satInc s.cnt }

/-- The RX_ACKDRIVE arm (43_acknowledge.md R130). -/
def armRxAckdrive (ts : Stamp) (s : State) : State :=
  if (satInc s.cnt).toNat < s.par.t0High then { s with cnt := satInc s.cnt, busOut := true }
  else
    ifContinues (ackDone ts { s with cnt := satInc s.cnt, busOut := false })
      fun s' => { s' with phase := .rxWaithigh, cnt := 0 }

end Sys2Proof.Machine
end

