-- ==== Sys2Proof/Machine/Transmit.lean ====
section
/-! DEFINITION. The transmit pass (44_frame_transmit.md) with its arbitration (42_start_arbitration.md R117 to
R119) and the sender's acknowledge slots (43_acknowledge.md R123 to R128). -/

namespace Sys2Proof.Machine

/-- StartHostTx (44_frame_transmit.md R135). -/
def startHostTx (s : State) : State :=
  if maxData < s.txb.len.toNat then raise .lengthOverflow { s with frame := s.txb }
  else { s with frame := s.txb, txResult := 0, didx := 0, phase := .arb, cnt := 0 }

/-- The ARB arm: T_BUSFREE consecutive low samples, then the start bit (42_start_arbitration.md R118). -/
def armArb (l : Bool) (s : State) : State :=
  if l then { s with cnt := 0 }
  else if (satInc s.cnt).toNat = s.par.tBusfree then encodeStart s
  else { s with cnt := satInc s.cnt }

/-- The start of an element that is no acknowledge slot (44_frame_transmit.md R137). -/
def beginTxSymbol (e : Elem) (ts : Stamp) (s : State) : State :=
  match e with
  | .el .start .val => encodeStart { s with elem := e }
  | .el f .val => encodeWord f { s with elem := e }
  | .el _ .par => encodeParity { s with elem := e }
  | .el _ .ack => raise .noRule { s with elem := e }
  | .fin => txEnd .ok .none 0 ts { s with elem := e }

/-- The opening of an acknowledge slot (43_acknowledge.md R123). -/
def openSlot (s : State) : State :=
  { s with phase := .txAck, cnt := 0, meas := true, acked := false, busOut := true }

/-- BeginAck (43_acknowledge.md R123, R128): under OMIT a Broadcast frame's slot is passed over in no time;
the element after a slot is never a slot (44_frame_transmit.md R137). -/
def beginAck (ts : Stamp) (s : State) : State :=
  match s.par.bcastAckSlot, isBroadcast s.par s.frame.mode with
  | .skip, true =>
    match nextElem s.elem s.didx s.frame.len with
    | some (e, d) => beginTxSymbol e ts { s with didx := d }
    | none => raise .noRule s
  | .skip, false => openSlot s
  | .emit, _ => openSlot s

/-- BeginTxElem(e) (44_frame_transmit.md R137). -/
def beginTxElem (e : Elem) (ts : Stamp) (s : State) : State :=
  match e with
  | .el f .ack => beginAck ts { s with elem := .el f .ack }
  | .el f .val => beginTxSymbol (.el f .val) ts s
  | .el f .par => beginTxSymbol (.el f .par) ts s
  | .fin => beginTxSymbol .fin ts s

/-- ELEM <- NextElem(ELEM); BeginTxElem(ELEM) (41_bitcodec.md R99, 43_acknowledge.md R124). -/
def advanceTx (ts : Stamp) (s : State) : State :=
  match nextElem s.elem s.didx s.frame.len with
  | some (e, d) => beginTxElem e ts { s with didx := d }
  | none => raise .noRule s

/-- EK = VAL and NBITS > 0: more bits of the current field to send (41_bitcodec.md R99). -/
def moreBits (s : State) : Bool :=
  match s.elem with
  | .el _ .val => decide (0 < s.nbits.toNat)
  | .el _ .par => false
  | .el _ .ack => false
  | .fin => false

/-- TxElemDone (41_bitcodec.md R99). -/
def txElemDone (ts : Stamp) (s : State) : State :=
  if moreBits s then sendNextBit s else advanceTx ts s

/-- The TX_BIT arm (41_bitcodec.md R99). -/
def armTxBit (ts : Stamp) (s : State) : State :=
  if s.cnt.toNat + 1 < s.per.toNat then
    { s with cnt := satInc s.cnt, busOut := decide (s.cnt.toNat + 1 < s.hold.toNat) }
  else txElemDone ts s

/-- The first low sample of a slot decides it: W is CNT (43_acknowledge.md R124, R125, R127). -/
def measureSlot (l : Bool) (s : State) : State :=
  if s.meas && !l then
    { s with
      meas := false
      acked := decide (s.par.tThresh < s.cnt.toNat) || isBroadcast s.par s.frame.mode }
  else s

/-- The rest of TX_ACK's step once the sample is measured: the slot's end, or its next tick
(43_acknowledge.md R124, R126, R132). -/
def slotTick (f : FieldCode) (ts : Stamp) (s : State) : State :=
  if !s.meas && decide (s.par.tBit ≤ s.cnt.toNat + 1) then
    if s.acked then advanceTx ts s else txEnd .nak f (errIndex f s.didx) ts s
  else { s with cnt := satInc s.cnt, busOut := decide (s.cnt.toNat + 1 < s.par.t1High) }

/-- The TX_ACK arm (43_acknowledge.md R124). -/
def armTxAck (l : Bool) (ts : Stamp) (s : State) : State :=
  match s.elem with
  | .fin => raise .noRule s
  | .el f _ =>
    if s.meas && l && timedOut s.par (s.cnt.toNat + 1) then
      txEnd .timeout f (errIndex f s.didx) ts s
    else slotTick f ts (measureSlot l s)

end Sys2Proof.Machine
end

