-- ==== Sys2Proof/Machine/Tick.lean ====
section
/-! DEFINITION. The per-tick step of the block (40_step.md): the IDLE arm, the watchdog, the dispatch on PHASE,
and runs of ticks under given drives of the line. -/

namespace Sys2Proof.Machine

/-- The IDLE arm (40_step.md R92, 42_start_arbitration.md R122). -/
def armIdle (l : Bool) (s : State) : State :=
  if s.txPending then startHostTx { s with txPending := false }
  else if l then { s with phase := .startMeas, cnt := 1 }
  else s

/-- Dispatch on PHASE (40_step.md R89); l is the line sample, ts is ts_in. -/
def arm (l : Bool) (ts : Stamp) (s : State) : State :=
  match s.phase with
  | .idle => armIdle l s
  | .startMeas => armStartMeas l s
  | .rxWaithigh => armRxWaithigh l s
  | .rxMeas => armRxMeas l ts s
  | .rxRemain => armRxRemain s
  | .rxAckdrive => armRxAckdrive ts s
  | .arb => armArb l s
  | .txBit => armTxBit ts s
  | .txAck => armTxAck l ts s

/-- Whether this IDLE tick is the one that kicks (40_step.md R93). -/
def kicks (s : State) : Bool := decide (s.phase = .idle) && decide (s.wdtcnt + 1 = s.par.wdtKickInterval)

/-- The watchdog update (40_step.md R93). -/
def watchdog (s : State) : State :=
  { s with
    wdtcnt := if kicks s then 0 else if s.phase = .idle then s.wdtcnt + 1 else 0
    events := s.events ++ stamped s.time (if kicks s then [.wdtKick] else []) }

/-- The line: L = BUS_OUT OR EXT (10_state.md R20). -/
def lineOf (ext : Bool) (s : State) : Bool := s.busOut || ext

/-- One step of the block after the tick's host operations: sample, watchdog, arm (40_step.md R87). -/
def tick (ext : Bool) (ts : Stamp) (s : State) : State :=
  { arm (lineOf ext s) ts (watchdog s) with time := s.time + 1 }

/-- Ticks under the given drives of the other nodes, with ts_in the free input of each tick and no host
operation; a fault ends the run (40_step.md R94). -/
def drive : List Bool → State → State
  | [], s => s
  | e :: es, s => if s.fault.isSome then s else drive es (tick e (Config.tsIn s.time) s)

end Sys2Proof.Machine
end

