-- ==== Sys2Proof/Machine/HostPort.lean ====
section
/-! DEFINITION. The host port (46_host_interface.md): HostWrite, HostRead, one host operation word, and the
whole tick of 40_step.md R86 and 70_reset_and_hazards.md R206, host operations and reset included. -/

namespace Sys2Proof.Machine

/-- TXB with data byte i replaced (46_host_interface.md R180). -/
def setTxbByte (i : BitVec 5) (d : Byte) (s : State) : State :=
  { s with txb := { s.txb with data := s.txb.data.setIfInBounds i.toNat d } }

/-- CTRL as it reads: ERRLOG_EN at 1, FILTER_EN at 0 (30_encoding.md R75, R76). -/
def ctrlWord (s : State) : Reg16 := (BitVec.ofBool s.errlogEn ++ BitVec.ofBool s.filterEn).setWidth 16

/-- Data byte i of a frame store as it reads. -/
def byteWord (fr : FrameBuf) (i : BitVec 5) : Reg16 := (fr.data[i.toNat]'(i.isLt)).setWidth 16

/-- HostWrite(a, v) (46_host_interface.md R171). -/
def hostWrite (a : RegAddr) (v : Reg16) (s : State) : State :=
  if a.extractLsb' 5 2 = 1#2 then setTxbByte (dataIndex a) (v.setWidth 8) s
  else if a = 0x00#7 then { s with filterEn := v.getLsbD 0, errlogEn := v.getLsbD 1 }
  else if a = 0x04#7 then { s with ownAddr := v.setWidth 12 }
  else if a = 0x05#7 then { s with peerAddr := v.setWidth 12 }
  else if a = 0x06#7 then { s with bcastAddr := v.setWidth 12 }
  else if a = 0x07#7 then { s with ctrlFlags := v.setWidth 4 }
  else if a = 0x0F#7 then { s with txPending := v.getLsbD 0 || s.txPending }
  else if a = 0x10#7 then { s with txb := { s.txb with mode := v.getLsbD 0 } }
  else if a = 0x11#7 then { s with txb := { s.txb with master := v.setWidth 12 } }
  else if a = 0x12#7 then { s with txb := { s.txb with slave := v.setWidth 12 } }
  else if a = 0x13#7 then { s with txb := { s.txb with ctrl := v.setWidth 4 } }
  else if a = 0x14#7 then { s with txb := { s.txb with len := v.setWidth 8 } }
  else s

/-- HostRead(a) (46_host_interface.md R172). -/
def hostRead (a : RegAddr) (s : State) : Reg16 :=
  if a.extractLsb' 5 2 = 1#2 then byteWord s.txb (dataIndex a)
  else if a.extractLsb' 5 2 = 3#2 then byteWord s.frame (dataIndex a)
  else if a = 0x00#7 then ctrlWord s
  else if a = 0x01#7 then statusWord s
  else if a = 0x02#7 then s.txResult
  else if a = 0x03#7 then s.rxResult
  else if a = 0x04#7 then s.ownAddr.setWidth 16
  else if a = 0x05#7 then s.peerAddr.setWidth 16
  else if a = 0x06#7 then s.bcastAddr.setWidth 16
  else if a = 0x07#7 then s.ctrlFlags.setWidth 16
  else if a = 0x08#7 then s.regTs.extractLsb' 0 16
  else if a = 0x09#7 then s.regTs.extractLsb' 16 16
  else if a = 0x10#7 then (BitVec.ofBool s.txb.mode).setWidth 16
  else if a = 0x11#7 then s.txb.master.setWidth 16
  else if a = 0x12#7 then s.txb.slave.setWidth 16
  else if a = 0x13#7 then s.txb.ctrl.setWidth 16
  else if a = 0x14#7 then s.txb.len.setWidth 16
  else if a = 0x40#7 then (BitVec.ofBool s.frame.mode).setWidth 16
  else if a = 0x41#7 then s.frame.master.setWidth 16
  else if a = 0x42#7 then s.frame.slave.setWidth 16
  else if a = 0x43#7 then s.frame.ctrl.setWidth 16
  else if a = 0x44#7 then s.frame.len.setWidth 16
  else 0

/-- A read result is an output of the tick (40_step.md R86). -/
def putRead (v : Reg16) (s : State) : State := { s with reads := s.reads ++ [(s.time, v)] }

/-- One host operation word (30_encoding.md R82). -/
def hostOp (w : HostWord) (s : State) : State :=
  if hostDir w then hostWrite (hostAddr w) (hostData w) s else putRead (hostRead (hostAddr w) s) s

/-- Host operations in issue order (40_step.md R87). -/
def hostOps (ws : List HostWord) (s : State) : State := ws.foldl (fun s w => hostOp w s) s

/-- Step(S, EXT, OPS, TS) (40_step.md R86, R87). -/
def fullStep (ext : Bool) (ops : List HostWord) (ts : Stamp) (s : State) : State :=
  tick ext ts (hostOps ops s)

/-- A tick with rst = 1 (70_reset_and_hazards.md R206): the reset state, with no event, and no result of this
tick's host operations. The parameters, the tick number and the outputs of earlier ticks are the model's
own fields and go on (log 15). -/
def resetTick (s : State) : State :=
  { State.resetWith s.par with
    fault := s.fault
    time := s.time + 1
    feed := s.feed
    events := s.events
    reads := s.reads.filter fun r => r.1 ≠ s.time }

/-- Next(S, rst, EXT, OPS, TS) (70_reset_and_hazards.md R206). -/
def nextTick (t : TickIn) (s : State) : State :=
  if t.rst then resetTick s else fullStep t.ext t.ops t.ts s

/-- What every meaning goes through: a state with FAULT set has no step (40_step.md R94). -/
def live (s : State) (f : State → State) : Host.Outcome State Fault Refusal :=
  match s.fault with
  | some r => .fault r
  | none => .next (f s)

end Sys2Proof.Machine
end

