-- ==== Sys2Proof/Machine/HostReads.lean ====
section
/-! DEFINITION. The meanings of the host reads (46_host_interface.md R172 to R183): each puts out one 16-bit value and
changes no state of the block; and the row of the reserved addresses. -/

namespace Sys2Proof.Machine

/-- RD CTRL (46_host_interface.md R172, R173). -/
def execRdCtrl (s : State) : Host.Outcome State Fault Refusal := live s fun s => putRead (ctrlWord s) s

/-- RD STATUS (46_host_interface.md R172, R175). -/
def execRdStatus (s : State) : Host.Outcome State Fault Refusal := live s fun s => putRead (statusWord s) s

/-- RD TX_RESULT (46_host_interface.md R172, R176). -/
def execRdTxResult (s : State) : Host.Outcome State Fault Refusal := live s fun s => putRead s.txResult s

/-- RD RX_RESULT (46_host_interface.md R172, R176). -/
def execRdRxResult (s : State) : Host.Outcome State Fault Refusal := live s fun s => putRead s.rxResult s

/-- RD OWN_ADDR (46_host_interface.md R172, R177). -/
def execRdOwnAddr (s : State) : Host.Outcome State Fault Refusal :=
  live s fun s => putRead (s.ownAddr.setWidth 16) s

/-- RD PEER_ADDR (46_host_interface.md R172, R177). -/
def execRdPeerAddr (s : State) : Host.Outcome State Fault Refusal :=
  live s fun s => putRead (s.peerAddr.setWidth 16) s

/-- RD BCAST_ADDR (46_host_interface.md R172, R177). -/
def execRdBcastAddr (s : State) : Host.Outcome State Fault Refusal :=
  live s fun s => putRead (s.bcastAddr.setWidth 16) s

/-- RD CTRL_FLAGS (46_host_interface.md R172, R177). -/
def execRdCtrlFlags (s : State) : Host.Outcome State Fault Refusal :=
  live s fun s => putRead (s.ctrlFlags.setWidth 16) s

/-- RD REG_TS_LO (46_host_interface.md R172, R178). -/
def execRdRegTsLo (s : State) : Host.Outcome State Fault Refusal :=
  live s fun s => putRead (s.regTs.extractLsb' 0 16) s

/-- RD REG_TS_HI (46_host_interface.md R172, R178). -/
def execRdRegTsHi (s : State) : Host.Outcome State Fault Refusal :=
  live s fun s => putRead (s.regTs.extractLsb' 16 16) s

/-- RD CMD, which always reads 0 (46_host_interface.md R172, R174). -/
def execRdCmd (s : State) : Host.Outcome State Fault Refusal := live s fun s => putRead 0 s

/-- RD TXB_MODE (46_host_interface.md R172, R179). -/
def execRdTxbMode (s : State) : Host.Outcome State Fault Refusal :=
  live s fun s => putRead ((BitVec.ofBool s.txb.mode).setWidth 16) s

/-- RD TXB_MASTER (46_host_interface.md R172, R179). -/
def execRdTxbMaster (s : State) : Host.Outcome State Fault Refusal :=
  live s fun s => putRead (s.txb.master.setWidth 16) s

/-- RD TXB_SLAVE (46_host_interface.md R172, R179). -/
def execRdTxbSlave (s : State) : Host.Outcome State Fault Refusal :=
  live s fun s => putRead (s.txb.slave.setWidth 16) s

/-- RD TXB_CTRL (46_host_interface.md R172, R179). -/
def execRdTxbCtrl (s : State) : Host.Outcome State Fault Refusal :=
  live s fun s => putRead (s.txb.ctrl.setWidth 16) s

/-- RD TXB_LEN (46_host_interface.md R172, R179). -/
def execRdTxbLen (s : State) : Host.Outcome State Fault Refusal :=
  live s fun s => putRead (s.txb.len.setWidth 16) s

/-- RD FR_MODE (46_host_interface.md R172, R181). -/
def execRdFrMode (s : State) : Host.Outcome State Fault Refusal :=
  live s fun s => putRead ((BitVec.ofBool s.frame.mode).setWidth 16) s

/-- RD FR_MASTER (46_host_interface.md R172, R181). -/
def execRdFrMaster (s : State) : Host.Outcome State Fault Refusal :=
  live s fun s => putRead (s.frame.master.setWidth 16) s

/-- RD FR_SLAVE (46_host_interface.md R172, R181). -/
def execRdFrSlave (s : State) : Host.Outcome State Fault Refusal :=
  live s fun s => putRead (s.frame.slave.setWidth 16) s

/-- RD FR_CTRL (46_host_interface.md R172, R181). -/
def execRdFrCtrl (s : State) : Host.Outcome State Fault Refusal :=
  live s fun s => putRead (s.frame.ctrl.setWidth 16) s

/-- RD FR_LEN (46_host_interface.md R172, R181). -/
def execRdFrLen (s : State) : Host.Outcome State Fault Refusal :=
  live s fun s => putRead (s.frame.len.setWidth 16) s

/-- RD TXB_DATA[i] (46_host_interface.md R172, R180). -/
def execRdTxbDataI (i : BitVec 5) (s : State) : Host.Outcome State Fault Refusal :=
  live s fun s => putRead (byteWord s.txb i) s

/-- RD FR_DATA[i] (46_host_interface.md R172, R182). -/
def execRdFrDataI (i : BitVec 5) (s : State) : Host.Outcome State Fault Refusal :=
  live s fun s => putRead (byteWord s.frame i) s

/-- A reserved address: a write is ignored, a read returns 0 (30_encoding.md R78). -/
def execWrRdReserved (dir : Bool) (_a : RegAddr) (_v : Reg16) (s : State) : Host.Outcome State Fault Refusal :=
  live s fun s => if dir then s else putRead 0 s

end Sys2Proof.Machine
end

