-- ==== Sys2Proof/Machine/HostWrites.lean ====
section
/-! DEFINITION. The meanings of the host writes (46_host_interface.md R171, R173 to R180, R183): a writable register
stores its implemented bits; a write to a read-only register is ignored. -/

namespace Sys2Proof.Machine

/-- WR CTRL (46_host_interface.md R171, R173). -/
def execWrCtrl (v : Reg16) (s : State) : Host.Outcome State Fault Refusal :=
  live s fun s => { s with filterEn := v.getLsbD 0, errlogEn := v.getLsbD 1 }

/-- WR OWN_ADDR (46_host_interface.md R171, R177). -/
def execWrOwnAddr (v : Reg16) (s : State) : Host.Outcome State Fault Refusal :=
  live s fun s => { s with ownAddr := v.setWidth 12 }

/-- WR PEER_ADDR (46_host_interface.md R171, R177). -/
def execWrPeerAddr (v : Reg16) (s : State) : Host.Outcome State Fault Refusal :=
  live s fun s => { s with peerAddr := v.setWidth 12 }

/-- WR BCAST_ADDR (46_host_interface.md R171, R177). -/
def execWrBcastAddr (v : Reg16) (s : State) : Host.Outcome State Fault Refusal :=
  live s fun s => { s with bcastAddr := v.setWidth 12 }

/-- WR CTRL_FLAGS (46_host_interface.md R171, R177). -/
def execWrCtrlFlags (v : Reg16) (s : State) : Host.Outcome State Fault Refusal :=
  live s fun s => { s with ctrlFlags := v.setWidth 4 }

/-- WR CMD: bit 0 is TX_GO, write 1 to act (30_encoding.md R77, 46_host_interface.md R174). -/
def execWrCmd (v : Reg16) (s : State) : Host.Outcome State Fault Refusal :=
  live s fun s => { s with txPending := v.getLsbD 0 || s.txPending }

/-- WR TXB_MODE (46_host_interface.md R171, R179). -/
def execWrTxbMode (v : Reg16) (s : State) : Host.Outcome State Fault Refusal :=
  live s fun s => { s with txb := { s.txb with mode := v.getLsbD 0 } }

/-- WR TXB_MASTER (46_host_interface.md R171, R179). -/
def execWrTxbMaster (v : Reg16) (s : State) : Host.Outcome State Fault Refusal :=
  live s fun s => { s with txb := { s.txb with master := v.setWidth 12 } }

/-- WR TXB_SLAVE (46_host_interface.md R171, R179). -/
def execWrTxbSlave (v : Reg16) (s : State) : Host.Outcome State Fault Refusal :=
  live s fun s => { s with txb := { s.txb with slave := v.setWidth 12 } }

/-- WR TXB_CTRL (46_host_interface.md R171, R179). -/
def execWrTxbCtrl (v : Reg16) (s : State) : Host.Outcome State Fault Refusal :=
  live s fun s => { s with txb := { s.txb with ctrl := v.setWidth 4 } }

/-- WR TXB_LEN: any 8-bit value is stored (46_host_interface.md R171, R179). -/
def execWrTxbLen (v : Reg16) (s : State) : Host.Outcome State Fault Refusal :=
  live s fun s => { s with txb := { s.txb with len := v.setWidth 8 } }

/-- WR STATUS: read-only, the write is ignored (46_host_interface.md R183). -/
def execWrStatus (_v : Reg16) (s : State) : Host.Outcome State Fault Refusal := live s fun s => s

/-- WR TX_RESULT: read-only, the write is ignored (46_host_interface.md R183). -/
def execWrTxResult (_v : Reg16) (s : State) : Host.Outcome State Fault Refusal := live s fun s => s

/-- WR RX_RESULT: read-only, the write is ignored (46_host_interface.md R183). -/
def execWrRxResult (_v : Reg16) (s : State) : Host.Outcome State Fault Refusal := live s fun s => s

/-- WR REG_TS_LO: read-only, the write is ignored (46_host_interface.md R183). -/
def execWrRegTsLo (_v : Reg16) (s : State) : Host.Outcome State Fault Refusal := live s fun s => s

/-- WR REG_TS_HI: read-only, the write is ignored (46_host_interface.md R183). -/
def execWrRegTsHi (_v : Reg16) (s : State) : Host.Outcome State Fault Refusal := live s fun s => s

/-- WR FR_MODE: read-only, the write is ignored (46_host_interface.md R183). -/
def execWrFrMode (_v : Reg16) (s : State) : Host.Outcome State Fault Refusal := live s fun s => s

/-- WR FR_MASTER: read-only, the write is ignored (46_host_interface.md R183). -/
def execWrFrMaster (_v : Reg16) (s : State) : Host.Outcome State Fault Refusal := live s fun s => s

/-- WR FR_SLAVE: read-only, the write is ignored (46_host_interface.md R183). -/
def execWrFrSlave (_v : Reg16) (s : State) : Host.Outcome State Fault Refusal := live s fun s => s

/-- WR FR_CTRL: read-only, the write is ignored (46_host_interface.md R183). -/
def execWrFrCtrl (_v : Reg16) (s : State) : Host.Outcome State Fault Refusal := live s fun s => s

/-- WR FR_LEN: read-only, the write is ignored (46_host_interface.md R183). -/
def execWrFrLen (_v : Reg16) (s : State) : Host.Outcome State Fault Refusal := live s fun s => s

/-- WR TXB_DATA[i] (46_host_interface.md R171, R180). -/
def execWrTxbDataI (i : BitVec 5) (v : Reg16) (s : State) : Host.Outcome State Fault Refusal :=
  live s (setTxbByte i (v.setWidth 8))

/-- WR FR_DATA[i]: read-only, the write is ignored (46_host_interface.md R183). -/
def execWrFrDataI (_i : BitVec 5) (_v : Reg16) (s : State) : Host.Outcome State Fault Refusal :=
  live s fun s => s

end Sys2Proof.Machine
end

