-- ==== Sys2Proof/Machine/Pseudo.lean ====
section
/-! DEFINITION. The meanings of the pseudo-instructions (30_encoding.md R84): the operations of the expansion, in order,
in one tick (log 8). -/

namespace Sys2Proof.Machine

/-- TXGO = WR CMD, 0x0001. -/
def execTxgo (s : State) : Host.Outcome State Fault Refusal := live s (hostWrite 0x0F#7 0x0001#16)

/-- WR TXB_DATA[i], d for the bytes of a list, from index i on. -/
def stageBytes (i : Nat) : List Byte → State → State
  | [], s => s
  | d :: ds, s => stageBytes (i + 1) ds (hostWrite (BitVec.ofNat 7 (0x20 + i)) (d.setWidth 16) s)

/-- The operations of SEND, in order. -/
def stageFrame (m : Bool) (ma sa : Addr12) (c : Nibble) (ds : List Byte) (s : State) : State :=
  hostWrite 0x0F#7 0x0001#16
    (hostWrite 0x14#7 ((BitVec.ofNat 8 ds.length).setWidth 16)
      (stageBytes 0 ds
        (hostWrite 0x13#7 (c.setWidth 16)
          (hostWrite 0x12#7 (sa.setWidth 16)
            (hostWrite 0x11#7 (ma.setWidth 16)
              (hostWrite 0x10#7 ((BitVec.ofBool m).setWidth 16) s))))))

/-- The operations of CONFIG, in order. -/
def configure (own peer bcast : Addr12) (flags : Nibble) (s : State) : State :=
  hostWrite 0x07#7 (flags.setWidth 16)
    (hostWrite 0x06#7 (bcast.setWidth 16)
      (hostWrite 0x05#7 (peer.setWidth 16) (hostWrite 0x04#7 (own.setWidth 16) s)))

/-- SEND m, ma, sa, c, [d0, ..., dn-1]. -/
def execSend (m : Bool) (ma sa : Addr12) (c : Nibble) (ds : List Byte) (s : State) : Host.Outcome State Fault Refusal :=
  live s (stageFrame m ma sa c ds)

/-- CONFIG own, peer, bcast, flags. -/
def execConfig (own peer bcast : Addr12) (flags : Nibble) (s : State) : Host.Outcome State Fault Refusal :=
  live s (configure own peer bcast flags)

/-- CTRLSET f, e = WR CTRL, (e << 1) | f. -/
def execCtrlset (f e : Bool) (s : State) : Host.Outcome State Fault Refusal :=
  live s (hostWrite 0x00#7 ((BitVec.ofBool e ++ BitVec.ofBool f).setWidth 16))

end Sys2Proof.Machine
end

