-- ==== Sys2Proof/Machine/Wire.lean ====
section
/-! DEFINITION. The meanings of the wire rows (30_encoding.md R61 to R69): what passes on the line from the current
tick on. The other nodes drive the row's waveform and the block takes one step per tick: a receiving block
decodes it, a transmitting block sends its own symbols beside it (the line is the OR), a sender measures the
slots in it (log 5). Durations are those of the state's parameters, whatever ticks the row was written with
(log 22). -/

namespace Sys2Proof.Machine

/-- The waveform of a symbol, tick by tick: high, then low to the end of its period (30_encoding.md R62 to
R64). -/
def symbolWave (p : Params) : Symbol → List Bool
  | .one => List.replicate p.t1High true ++ List.replicate (p.tBit - p.t1High) false
  | .zero => List.replicate p.t0High true ++ List.replicate (p.tBit - p.t0High) false
  | .start => List.replicate p.tStartHigh true ++ List.replicate (p.tStart - p.tStartHigh) false

/-- The waveform of a string of symbols (30_encoding.md R67). -/
def wave (p : Params) (ss : List Symbol) : List Bool := ss.flatMap (symbolWave p)

/-- A string of symbols passes on the line. -/
def driveSymbols (ss : List Symbol) (s : State) : State := drive (wave s.par ss) s

/-- BIT1 (30_encoding.md R62). -/
def execBit1 (s : State) : Host.Outcome State Fault Refusal := live s (driveSymbols [.one])

/-- BIT0 (30_encoding.md R63). -/
def execBit0 (s : State) : Host.Outcome State Fault Refusal := live s (driveSymbols [.zero])

/-- START (30_encoding.md R64). -/
def execStart (s : State) : Host.Outcome State Fault Refusal := live s (driveSymbols [.start])

/-- ACK_SLOT_NOT_ACKED: a slot that no other node stretches (30_encoding.md R65). -/
def execAckSlotNotAcked (s : State) : Host.Outcome State Fault Refusal := live s (driveSymbols [.one])

/-- ACK_SLOT_ACKED: a slot that another node stretches (30_encoding.md R65). -/
def execAckSlotAcked (s : State) : Host.Outcome State Fault Refusal := live s (driveSymbols [.zero])

/-- FIELD_MODE (30_encoding.md R69). -/
def execFieldMode (m : Bool) (s : State) : Host.Outcome State Fault Refusal :=
  live s (driveSymbols [symbolOf m])

/-- FIELD_MASTER (30_encoding.md R68). -/
def execFieldMaster (a : ParField 12) (s : State) : Host.Outcome State Fault Refusal :=
  live s (driveSymbols (parFieldSymbols a))

/-- FIELD_SLAVE (30_encoding.md R68, 44_frame_transmit.md R139). -/
def execFieldSlave (a : AckField 12) (s : State) : Host.Outcome State Fault Refusal :=
  live s (driveSymbols (ackFieldSymbols a))

/-- FIELD_CONTROL (30_encoding.md R68, 44_frame_transmit.md R140). -/
def execFieldControl (c : AckField 4) (s : State) : Host.Outcome State Fault Refusal :=
  live s (driveSymbols (ackFieldSymbols c))

/-- FIELD_LENGTH (30_encoding.md R68, 44_frame_transmit.md R141). -/
def execFieldLength (l : AckField 8) (s : State) : Host.Outcome State Fault Refusal :=
  live s (driveSymbols (ackFieldSymbols l))

/-- FIELD_DATA (30_encoding.md R68, 44_frame_transmit.md R142). -/
def execFieldData (d : AckField 8) (s : State) : Host.Outcome State Fault Refusal :=
  live s (driveSymbols (ackFieldSymbols d))

/-- FRAME (30_encoding.md R67). -/
def execFrame (m : Bool) (a : ParField 12) (b : AckField 12) (c : AckField 4) (l : AckField 8)
    (ds : List (AckField 8)) (s : State) : Host.Outcome State Fault Refusal :=
  live s (driveSymbols (frameSymbols m a b c l ds))

end Sys2Proof.Machine
end

