-- ==== Sys2Proof/Machine/Dispatch.lean ====
section
/-! DEFINITION. The dispatch: one arm per row of spec/opcode_table.json, each one call of its meaning. -/

namespace Sys2Proof.Machine

def exec (i : Instr) (s : State) : Host.Outcome State Fault Refusal :=
  match i with
  | .bit1 => Sys2Proof.Machine.execBit1 s
  | .bit0 => Sys2Proof.Machine.execBit0 s
  | .start => Sys2Proof.Machine.execStart s
  | .ackSlotNotAcked => Sys2Proof.Machine.execAckSlotNotAcked s
  | .ackSlotAcked => Sys2Proof.Machine.execAckSlotAcked s
  | .fieldMode m => Sys2Proof.Machine.execFieldMode m s
  | .fieldMaster a => Sys2Proof.Machine.execFieldMaster a s
  | .fieldSlave a => Sys2Proof.Machine.execFieldSlave a s
  | .fieldControl c => Sys2Proof.Machine.execFieldControl c s
  | .fieldLength l => Sys2Proof.Machine.execFieldLength l s
  | .fieldData d => Sys2Proof.Machine.execFieldData d s
  | .frame m a b c l ds => Sys2Proof.Machine.execFrame m a b c l ds s
  | .wrCtrl v => Sys2Proof.Machine.execWrCtrl v s
  | .rdCtrl => Sys2Proof.Machine.execRdCtrl s
  | .wrStatus v => Sys2Proof.Machine.execWrStatus v s
  | .rdStatus => Sys2Proof.Machine.execRdStatus s
  | .wrTxResult v => Sys2Proof.Machine.execWrTxResult v s
  | .rdTxResult => Sys2Proof.Machine.execRdTxResult s
  | .wrRxResult v => Sys2Proof.Machine.execWrRxResult v s
  | .rdRxResult => Sys2Proof.Machine.execRdRxResult s
  | .wrOwnAddr v => Sys2Proof.Machine.execWrOwnAddr v s
  | .rdOwnAddr => Sys2Proof.Machine.execRdOwnAddr s
  | .wrPeerAddr v => Sys2Proof.Machine.execWrPeerAddr v s
  | .rdPeerAddr => Sys2Proof.Machine.execRdPeerAddr s
  | .wrBcastAddr v => Sys2Proof.Machine.execWrBcastAddr v s
  | .rdBcastAddr => Sys2Proof.Machine.execRdBcastAddr s
  | .wrCtrlFlags v => Sys2Proof.Machine.execWrCtrlFlags v s
  | .rdCtrlFlags => Sys2Proof.Machine.execRdCtrlFlags s
  | .wrRegTsLo v => Sys2Proof.Machine.execWrRegTsLo v s
  | .rdRegTsLo => Sys2Proof.Machine.execRdRegTsLo s
  | .wrRegTsHi v => Sys2Proof.Machine.execWrRegTsHi v s
  | .rdRegTsHi => Sys2Proof.Machine.execRdRegTsHi s
  | .wrCmd v => Sys2Proof.Machine.execWrCmd v s
  | .rdCmd => Sys2Proof.Machine.execRdCmd s
  | .wrTxbMode v => Sys2Proof.Machine.execWrTxbMode v s
  | .rdTxbMode => Sys2Proof.Machine.execRdTxbMode s
  | .wrTxbMaster v => Sys2Proof.Machine.execWrTxbMaster v s
  | .rdTxbMaster => Sys2Proof.Machine.execRdTxbMaster s
  | .wrTxbSlave v => Sys2Proof.Machine.execWrTxbSlave v s
  | .rdTxbSlave => Sys2Proof.Machine.execRdTxbSlave s
  | .wrTxbCtrl v => Sys2Proof.Machine.execWrTxbCtrl v s
  | .rdTxbCtrl => Sys2Proof.Machine.execRdTxbCtrl s
  | .wrTxbLen v => Sys2Proof.Machine.execWrTxbLen v s
  | .rdTxbLen => Sys2Proof.Machine.execRdTxbLen s
  | .wrFrMode v => Sys2Proof.Machine.execWrFrMode v s
  | .rdFrMode => Sys2Proof.Machine.execRdFrMode s
  | .wrFrMaster v => Sys2Proof.Machine.execWrFrMaster v s
  | .rdFrMaster => Sys2Proof.Machine.execRdFrMaster s
  | .wrFrSlave v => Sys2Proof.Machine.execWrFrSlave v s
  | .rdFrSlave => Sys2Proof.Machine.execRdFrSlave s
  | .wrFrCtrl v => Sys2Proof.Machine.execWrFrCtrl v s
  | .rdFrCtrl => Sys2Proof.Machine.execRdFrCtrl s
  | .wrFrLen v => Sys2Proof.Machine.execWrFrLen v s
  | .rdFrLen => Sys2Proof.Machine.execRdFrLen s
  | .wrTxbDataI k v => Sys2Proof.Machine.execWrTxbDataI k v s
  | .rdTxbDataI k => Sys2Proof.Machine.execRdTxbDataI k s
  | .wrFrDataI k v => Sys2Proof.Machine.execWrFrDataI k v s
  | .rdFrDataI k => Sys2Proof.Machine.execRdFrDataI k s
  | .wrRdReserved dir a v => Sys2Proof.Machine.execWrRdReserved dir a v s
  | .txgo => Sys2Proof.Machine.execTxgo s
  | .send m ma sa c ds => Sys2Proof.Machine.execSend m ma sa c ds s
  | .config own peer bcast flags => Sys2Proof.Machine.execConfig own peer bcast flags s
  | .ctrlset f e => Sys2Proof.Machine.execCtrlset f e s

end Sys2Proof.Machine
end

