-- ==== Sys2Proof/Machine/Feed.lean ====
section
/-! DEFINITION. The inputs still to come: a tick with the free inputs, the program directives TICKS and WAIT
(30_encoding.md R83), a form that is no row's, and the placing of an encoded row. -/

namespace Sys2Proof.Machine

/-- A tick for which nothing is scheduled: EXT and ts_in are the free inputs of that tick, and the host
does nothing (log 3). -/
def freeTick (s : State) : State := tick (Config.extDrive s.time) (Config.tsIn s.time) s

/-- The rows of the host port: host operations and pseudo-instructions (30_encoding.md R82, R84). -/
def isHostRow : Instr → Bool
  | .bit1 | .bit0 | .start | .ackSlotNotAcked | .ackSlotAcked
  | .fieldMode _ | .fieldMaster _ | .fieldSlave _ | .fieldControl _ | .fieldLength _ | .fieldData _
  | .frame _ _ _ _ _ _ => false
  | .wrCtrl _ | .rdCtrl | .wrStatus _ | .rdStatus | .wrTxResult _ | .rdTxResult | .wrRxResult _ | .rdRxResult
  | .wrOwnAddr _ | .rdOwnAddr | .wrPeerAddr _ | .rdPeerAddr | .wrBcastAddr _ | .rdBcastAddr
  | .wrCtrlFlags _ | .rdCtrlFlags | .wrRegTsLo _ | .rdRegTsLo | .wrRegTsHi _ | .rdRegTsHi | .wrCmd _ | .rdCmd
  | .wrTxbMode _ | .rdTxbMode | .wrTxbMaster _ | .rdTxbMaster | .wrTxbSlave _ | .rdTxbSlave
  | .wrTxbCtrl _ | .rdTxbCtrl | .wrTxbLen _ | .rdTxbLen | .wrFrMode _ | .rdFrMode | .wrFrMaster _ | .rdFrMaster
  | .wrFrSlave _ | .rdFrSlave | .wrFrCtrl _ | .rdFrCtrl | .wrFrLen _ | .rdFrLen
  | .wrTxbDataI _ _ | .rdTxbDataI _ | .wrFrDataI _ _ | .rdFrDataI _ | .wrRdReserved _ _ _
  | .txgo | .send _ _ _ _ _ | .config _ _ _ _ | .ctrlset _ _ => true

/-- The current tick is one with an operation (log 20). -/
def noteOp (s : State) : State := { s with opTick := some s.time }

/-- A row of the host port makes the current tick one with an operation (log 20). -/
def noteRow (i : Instr) (s : State) : State := if isHostRow i then noteOp s else s

/-- A group of host operation words, issued in order in the current tick; no host word is illegal
(30_encoding.md R78, R85). An empty group issues nothing. -/
def issueWords (ws : List HostWord) (s : State) : State :=
  if ws.isEmpty then s else hostOps ws (noteOp s)

/-- An encoded form taken for what it is made of, which is how one that is no row's runs: ticks or symbols pass on
the line, where no pulse width and no string of symbols is illegal (30_encoding.md R79), and words are
operations of the host (R85). A waveform passes tick by tick as it is written (log 21). -/
def passForm (c : Code) (s : State) : State :=
  match c with
  | .symbol _ line => drive line s
  | .field _ ss => driveSymbols ss s
  | .frame ss => driveSymbols ss s
  | .host w => issueWords [w] s
  | .pseudo ws => issueWords ws s

/-- How many ticks TICKS n lets pass from here: n with no host operation, after the current tick if an
operation has been issued in it (30_encoding.md R83, log 16). -/
def ticksToPass (n : Nat) (s : State) : Nat := if s.opTick = some s.time then n + 1 else n

/-- TICKS n: one of its ticks passes and the rest stay scheduled; when none is left to pass, the directive is
over (30_encoding.md R83). -/
def passTicks (n : Nat) (rest : List Input) (s : State) : State :=
  match ticksToPass n s with
  | 0 => { s with feed := rest }
  | 1 => freeTick { s with feed := rest }
  | k + 2 => freeTick { s with feed := .ticks (k + 1) :: rest }

/-- The name of an event (60_exceptions.md R199). -/
def eventName : Event → EventName
  | .txDone _ => .txDone
  | .rxDone _ => .rxDone
  | .rxValid => .rxValid
  | .diagDump _ => .diagDump
  | .diagErr _ => .diagErr
  | .wdtKick => .wdtKick

/-- Whether tick t emitted an event of this name. -/
def emittedIn (t : Nat) (e : EventName) (es : List (Nat × Event)) : Bool :=
  es.any fun x => decide (x.1 = t) && decide (eventName x.2 = e)

/-- WAIT e: a tick passes, and the wait is over if it emitted e (30_encoding.md R83, log 16). -/
def awaitEvent (e : EventName) (rest : List Input) (s : State) : State :=
  { freeTick s with
    feed := if emittedIn s.time e (freeTick s).events then rest else .wait e :: rest }

/-- The inputs with a row's bits placed first, in the layout the decoder reads; bits in no row's layout
place nothing. -/
def scheduleWord (nbits w : Nat) (feed : List Input) : List Input :=
  match tableCode nbits w with
  | some c => .code c :: feed
  | none => feed

end Sys2Proof.Machine
end

