-- ==== Sys2Proof/Machine/Step.lean ====
section
/-! DEFINITION. One step of the machine (log 1): the next scheduled input reaches the block, or, where nothing
is scheduled, one tick passes with the free inputs. A scheduled form that is no row's runs as what it is made
of (log 21). A state with FAULT set has no step (40_step.md R94). -/

namespace Sys2Proof.Machine

def step (s : State) : Host.Outcome State Fault Refusal :=
  match s.fault with
  | some r => .fault r
  | none =>
    match s.feed with
    | [] => .next (freeTick s)
    | .code c :: rest =>
      match decode c with
      | .ok i => exec i (noteRow i { s with feed := rest })
      | .error _ => .next (passForm c { s with feed := rest })
    | .cycle t :: rest => .next (nextTick t { s with feed := rest })
    | .ticks n :: rest => .next (passTicks n rest s)
    | .wait e :: rest => .next (awaitEvent e rest s)

/-- The state with a row's bits scheduled as the next input, so that the next step runs that instruction:
it stands for the load from outside the machine (log 2). -/
def State.withFetchWord (s : State) (nbits w : Nat) : State :=
  { s with feed := scheduleWord nbits w s.feed }

end Sys2Proof.Machine
end

