-- ==== Sys2Proof/Machine/Bus.lean ====
section
/-! DEFINITION. Several blocks on one line (60_exceptions.md R200): all step in the same tick, and the level
each samples is the OR of every BUS_OUT and of EXT. -/

namespace Sys2Proof.Machine

/-- The level of the line: high if any node drives it (10_state.md R20, 60_exceptions.md R200). -/
def busLevel (ext : Bool) (nodes : List State) : Bool := ext || nodes.any fun n => n.busOut

/-- One tick of every block, each sampling the same level; a block with FAULT set takes no step
(40_step.md R94). -/
def busTick (ext : Bool) (ts : Stamp) (nodes : List State) : List State :=
  nodes.map fun n => if n.fault.isSome then n else tick (busLevel ext nodes) ts n

/-- Ticks under the given drives of the remaining nodes, ts_in the free input of each tick; t is the number
of the first. -/
def busRun : List Bool → Nat → List State → List State
  | [], _, nodes => nodes
  | e :: es, t, nodes => busRun es (t + 1) (busTick e (Config.tsIn t) nodes)

end Sys2Proof.Machine
end

