-- ==== Sys2Proof/Safety.lean ====
section
/-! DEFINITION. The terms the statements use: what a good state is (the invariant every step keeps), what the
line and the event record show, where a field begins, and how long a wire row lasts. -/

namespace Sys2Proof.Machine

/-! ## Legal places in a pass -/

/-- The elements of the sequence of 40_step.md R90, START apart. -/
def elemLegal : Elem → Bool
  | .el .mode .val => true
  | .el .master .val => true
  | .el .master .par => true
  | .el .slave _ => true
  | .el .control _ => true
  | .el .length _ => true
  | .el .data _ => true
  | .el .none _ => false
  | .el .start _ => false
  | .el .mode .par => false
  | .el .mode .ack => false
  | .el .master .ack => false
  | .fin => false

/-- The elements that come before a receiver knows whether the frame is for it (45_frame_receive.md R153). -/
def beforeForme : Elem → Bool
  | .el .mode _ => true
  | .el .master _ => true
  | .el .slave .val => true
  | .el .slave .par => true
  | _ => false

/-- The elements that come after LENGTH has been accepted (45_frame_receive.md R156). -/
def afterLength : Elem → Bool
  | .el .length .ack => true
  | .el .data _ => true
  | _ => false

/-- The kind of an element, if it is one. -/
def kindOf : Elem → Option Kind
  | .el _ k => some k
  | .fin => none

/-- The field of an element, if it is one. -/
def codeOf : Elem → Option FieldCode
  | .el f _ => some f
  | .fin => none

/-- Once the length is accepted it is at most MAX_DATA, and a data element has its index below it
(40_step.md R96, 45_frame_receive.md R156). -/
def dataLegal (s : State) : Bool :=
  (!afterLength s.elem || decide (s.frame.len.toNat ≤ maxData)) &&
    (decide (codeOf s.elem ≠ some .data) || decide (s.didx.toNat < s.frame.len.toNat))

/-- A value element still to be received has between one and Width(F) bits to come (45_frame_receive.md
R149). -/
def bitsToReceive (s : State) : Bool :=
  match s.elem with
  | .el f .val => decide (1 ≤ s.nbits.toNat) && decide (s.nbits.toNat ≤ fieldWidth f)
  | _ => true

/-- A receive pass between two decoded symbols, or inside one. -/
def rxLegal (s : State) : Bool :=
  elemLegal s.elem && dataLegal s && bitsToReceive s && !(beforeForme s.elem && s.forme) && !s.respActive

/-- TX_BIT's symbol: the start bit, or a value or parity bit, with its HOLD and PER (10_state.md R27). -/
def txSymbolLegal (s : State) : Bool :=
  match s.elem with
  | .el .start .val =>
    decide (s.nbits = 0) && decide (s.hold.toNat = s.par.tStartHigh) && decide (s.per.toNat = s.par.tStart)
  | .el f .val =>
    decide (s.nbits.toNat < fieldWidth f) && decide (s.per.toNat = s.par.tBit) &&
      (decide (s.hold.toNat = s.par.t1High) || decide (s.hold.toNat = s.par.t0High))
  | .el _ .par =>
    decide (s.per.toNat = s.par.tBit) &&
      (decide (s.hold.toNat = s.par.t1High) || decide (s.hold.toNat = s.par.t0High))
  | _ => false

/-- What each phase holds (10_state.md R22, R23). -/
def phaseLegal (s : State) : Bool :=
  match s.phase with
  | .idle => !s.busOut && decide (s.cnt = 0) && !s.respActive
  | .startMeas => !s.busOut && decide (1 ≤ s.cnt.toNat) && !s.respActive
  | .rxWaithigh => !s.busOut && rxLegal s
  | .rxMeas =>
    !s.busOut && rxLegal s && decide (1 ≤ s.cnt.toNat) && !(decide (kindOf s.elem = some .ack) && s.forme)
  | .rxRemain => !s.busOut && rxLegal s && decide (s.cnt.toNat < s.par.tRem)
  | .rxAckdrive =>
    s.busOut && rxLegal s && decide (kindOf s.elem = some .ack) && s.forme && decide (1 ≤ s.cnt.toNat) &&
      decide (s.cnt.toNat < s.par.t0High)
  | .arb => !s.busOut && decide (s.cnt.toNat < s.par.tBusfree) && decide (s.frame.len.toNat ≤ maxData)
  | .txBit =>
    (decide (s.elem = .el .start .val) || elemLegal s.elem) && dataLegal s && txSymbolLegal s &&
      decide (s.frame.len.toNat ≤ maxData) && decide (s.cnt.toNat < s.per.toNat) &&
      (s.busOut == decide (s.cnt.toNat < s.hold.toNat))
  | .txAck =>
    elemLegal s.elem && decide (kindOf s.elem = some .ack) && dataLegal s &&
      decide (s.frame.len.toNat ≤ maxData) && (s.busOut == decide (s.cnt.toNat < s.par.t1High))

/-- A result register holds a KIND code that is ever written, and 0 at bit 7 (30_encoding.md R71 to R73). -/
def resultLegal (top : Nat) (r : Reg16) : Bool :=
  decide ((r.extractLsb' 0 4).toNat ≤ top) && !r.getLsbD 7

/-- The invariant: legal parameters, legal results, a data index and a watchdog count inside their bounds
(40_step.md R96), no operation issued in a tick to come, never the fault `noRule`, and, while the block
runs, a legal place in its pass. -/
abbrev Inv (s : State) : Prop :=
  s.par.Legal ∧ resultLegal 3 s.txResult = true ∧ resultLegal 6 s.rxResult = true ∧
    s.didx.toNat < maxData ∧ s.wdtcnt.toNat < s.par.wdtKickInterval.toNat ∧
    (s.opTick.all fun u => decide (u ≤ s.time)) = true ∧ s.fault ≠ some .noRule ∧ (s.fault = none → phaseLegal s = true)

/-! ## What is seen from outside -/

/-- The events other than the watchdog's kicks. -/
def passEvents (es : List (Nat × Event)) : List (Nat × Event) := es.filter fun e => e.2 ≠ .wdtKick

/-- BUS_OUT tick by tick while the other nodes drive as given. -/
def busTrace : List Bool → State → List Bool
  | [], _ => []
  | e :: es, s => s.busOut :: busTrace es (tick e (Config.tsIn s.time) s)

/-- The implemented bits of a host read-write register, if the address names one (30_encoding.md R75). -/
def rwMask (a : RegAddr) : Option Reg16 :=
  if a.extractLsb' 5 2 = 1#2 then some 0x00FF
  else if a = 0x00#7 then some 0x0003
  else if a = 0x04#7 ∨ a = 0x05#7 ∨ a = 0x06#7 ∨ a = 0x11#7 ∨ a = 0x12#7 then some 0x0FFF
  else if a = 0x07#7 ∨ a = 0x13#7 then some 0x000F
  else if a = 0x10#7 then some 0x0001
  else if a = 0x14#7 then some 0x00FF
  else none

/-- How many ticks a wire row lasts at the source's timing (30_encoding.md R62 to R65, R80,
70_reset_and_hazards.md R221); 0 for a host row. -/
def rowTicks : Instr → Nat
  | .bit1 | .bit0 | .ackSlotNotAcked | .ackSlotAcked | .fieldMode _ => 10
  | .start => 47
  | .fieldMaster _ => 130
  | .fieldSlave _ => 140
  | .fieldControl _ => 60
  | .fieldLength _ => 100
  | .fieldData _ => 100
  | .frame _ _ _ _ _ ds => 487 + 100 * ds.length
  | _ => 0

/-! ## Data bytes -/

/-- The bytes of a list from index 0 on, the others as they were. -/
def overlay (ds : List Byte) (old : Vector Byte 32) : Vector Byte 32 :=
  Vector.ofFn fun i : Fin 32 => ds.getD i.val old[i]

/-- The bytes of a frame's data fields, the rest 0 (42_start_arbitration.md R115). -/
def receivedBytes (ds : List (AckField 8)) : Vector Byte 32 :=
  overlay (ds.map (·.v)) (Vector.replicate 32 0)

/-- The frame that the operands of a FRAME row carry. -/
def frameOf (m : Bool) (a : ParField 12) (b : AckField 12) (c : AckField 4) (l : AckField 8)
    (ds : List (AckField 8)) : FrameBuf where
  mode := m
  master := a.v
  slave := b.v
  ctrl := c.v
  len := l.v
  data := receivedBytes ds

/-- Every parity symbol of a FRAME row is its field's parity (30_encoding.md R68). -/
abbrev ParityRight (a : ParField 12) (b : AckField 12) (c : AckField 4) (l : AckField 8)
    (ds : List (AckField 8)) : Prop :=
  a.p = parityOf a.v ∧ b.p = parityOf b.v ∧ c.p = parityOf c.v ∧ l.p = parityOf l.v ∧
    ∀ d ∈ ds, d.p = parityOf d.v

/-! ## Where a field begins -/

/-- A receiver at the first symbol of field f's value (45_frame_receive.md R149), at the source's timing. -/
abbrev RxAt (f : FieldCode) (s : State) : Prop :=
  s.fault = none ∧ s.par.SourceTiming ∧ s.phase = .rxWaithigh ∧ s.busOut = false ∧ s.elem = .el f .val ∧
    s.nbits = BitVec.ofNat 4 (fieldWidth f) ∧ s.shift = 0 ∧ s.parity = false

/-- The low samples a receiver has counted when a symbol's period ends, by the bit it read: 4 after a BIT1,
0 after a BIT0, at the source's timing. -/
def restAfter (b : Bool) : BitVec 16 := if b then 4 else 0

/-- The same after an acknowledge slot: one low sample after its own stretch, else as after a bit. -/
def restAfterSlot (forme k : Bool) : BitVec 16 := if forme then 1 else restAfter k

/-- A receiver that has just been given a field's last symbol: waiting for field f's first one. -/
def rxNext (f : FieldCode) (rest : BitVec 16) (ticks : Nat) (s : State) : State :=
  { s with
    elem := .el f .val
    nbits := BitVec.ofNat 4 (fieldWidth f)
    shift := 0
    parity := false
    phase := .rxWaithigh
    cnt := rest
    wdtcnt := 0
    time := s.time + ticks }

/-! ## Pseudo-instructions as rows of the host port -/

/-- `WR TXB_DATA[i], d` for the bytes of a list, from index i on. -/
def dataRows (i : Nat) : List Byte → List Instr
  | [] => []
  | d :: ds => .wrTxbDataI (BitVec.ofNat 5 i) (d.setWidth 16) :: dataRows (i + 1) ds

/-- The host operations a pseudo-instruction stands for, in order (30_encoding.md R84). -/
def expansion : Instr → Option (List Instr)
  | .txgo => some [.wrCmd 1]
  | .send m ma sa c ds =>
    some ([.wrTxbMode ((BitVec.ofBool m).setWidth 16), .wrTxbMaster (ma.setWidth 16),
      .wrTxbSlave (sa.setWidth 16), .wrTxbCtrl (c.setWidth 16)] ++ dataRows 0 ds ++
      [.wrTxbLen (BitVec.ofNat 16 ds.length), .wrCmd 1])
  | .config own peer bcast flags =>
    some [.wrOwnAddr (own.setWidth 16), .wrPeerAddr (peer.setWidth 16), .wrBcastAddr (bcast.setWidth 16),
      .wrCtrlFlags (flags.setWidth 16)]
  | .ctrlset f e =>
    some [.wrCtrl ((BitVec.ofBool e).setWidth 16 <<< 1 ||| (BitVec.ofBool f).setWidth 16)]
  | _ => none

/-- Rows executed one after another. -/
def runRows : List Instr → State → Host.Outcome State Fault Refusal
  | [], s => .next s
  | i :: is, s =>
    match exec i s with
    | .next t => runRows is t
    | .fault r => .fault r
    | .refused r => .refused r

/-! ## Passes at the source's timing -/

/-- A block between passes with nothing to send: it polls the line (40_step.md R92). -/
abbrev Listening (s : State) : Prop :=
  s.fault = none ∧ s.par.SourceTiming ∧ s.phase = .idle ∧ s.busOut = false ∧ s.txPending = false

/-- Whether every field of the sequence with a value has a parity symbol after it: all but MODE
(30_encoding.md R67). -/
def hasParity : FieldCode → Bool
  | .master | .slave | .control | .length | .data => true
  | .none | .start | .mode => false

/-- The symbols of field f's value, given with 12 bits, and of its parity where it has one
(30_encoding.md R68). -/
def sentSymbols (f : FieldCode) (v : BitVec 12) : List Symbol :=
  (msbFirst v (fieldWidth f)).map symbolOf ++ if hasParity f then [symbolOf (parityOf v)] else []

/-- The slot bit of a frame's last field. -/
def lastSlot (l : AckField 8) (ds : List (AckField 8)) : Bool := ((ds.getLast?).map (·.k)).getD l.k

/-- The tick in which a receiver of n data bytes ends its pass, counted from the start bit's first
(70_reset_and_hazards.md R222): slot tick 8 for the addressed receiver, else the last slot's first low
sample. -/
def rxEndTick (forme k : Bool) (n : Nat) : Nat :=
  477 + 100 * n + if forme then 8 else if k then 5 else 9

/-- The frame is surfaced to this node (45_frame_receive.md R165). -/
def surfacedBy (s : State) (fr : FrameBuf) : Bool :=
  !s.filterEn || decide (fr.slave = s.ownAddr) ||
    (decide (fr.mode = s.par.modeBcastBit) && decide (fr.slave = s.bcastAddr))

/-- The frame is the liveness probe, addressed to this node (45_frame_receive.md R162). -/
def probeFor (s : State) (fr : FrameBuf) : Bool :=
  decide (fr.slave = s.ownAddr) && decide (fr.len = 3) && decide (fr.data[0] = s.par.probeOpcode) &&
    decide (fr.data[2] = s.par.probeTerm)

/-- What a sender puts on the line for a frame: its own symbols, with `slot` for each acknowledge slot: a BIT1
where it opens one, nothing where it omits them (30_encoding.md R65, R67, 43_acknowledge.md R128). -/
def sentFrame (slot : List Symbol) (fr : FrameBuf) : List Symbol :=
  .start :: symbolOf fr.mode :: (sentSymbols .master fr.master ++
    (sentSymbols .slave fr.slave ++ slot) ++ (sentSymbols .control (fr.ctrl.setWidth 12) ++ slot) ++
    (sentSymbols .length (fr.len.setWidth 12) ++ slot) ++
    (fr.data.toList.take fr.len.toNat).flatMap fun d => sentSymbols .data (d.setWidth 12) ++ slot)

/-- Every slot of a FRAME row reads as acknowledged. -/
abbrev AllAcked (b : AckField 12) (c : AckField 4) (l : AckField 8) (ds : List (AckField 8)) : Prop :=
  b.k = false ∧ c.k = false ∧ l.k = false ∧ ∀ d ∈ ds, d.k = false

/-- A sender at the first tick of its start bit (42_start_arbitration.md R112). -/
abbrev TxAtStart (s : State) : Prop :=
  s.fault = none ∧ s.par.SourceTiming ∧ s.phase = .txBit ∧ s.elem = .el .start .val ∧ s.nbits = 0 ∧ s.cnt = 0 ∧
    s.busOut = true ∧ s.hold = 42 ∧ s.per = 47

/-- EDGE_TIMEOUT does not cut off a wait of w ticks (60_exceptions.md R190); one shorter than T_START is never
cut off (70_reset_and_hazards.md R225). -/
abbrev NotCutOff (p : Params) (w : Nat) : Prop := w < 47 ∨ ∀ n, p.edgeTimeout = some n → w < n

/-- n ticks for which nothing is scheduled, while no fault ends the run (log 3). -/
def freeTicks (n : Nat) (s : State) : State :=
  drive ((List.range n).map fun k => Config.extDrive (s.time + k)) s

/-- A sender at the first tick of field f's value: what EncodeWord leaves (41_bitcodec.md R100). -/
def txAt (f : FieldCode) (s : State) : State := encodeWord f { s with elem := .el f .val }

/-- The result register values of an error in field f, data byte i (60_exceptions.md R185). -/
def errorCode (kind : Nat) (f : FieldCode) (i : Byte) : Reg16 :=
  BitVec.ofNat 16 (kind + 16 * (fieldNum f).toNat + if f = .data then 256 * i.toNat else 0)

/-- The error event that accompanies an error end (60_exceptions.md R205). -/
def errorLog (s : State) (r : Reg16) : List Event := if s.errlogEn then [.diagErr r] else []

/-- The other nodes never leave the line low for ten ticks in a row, c low ticks having passed. -/
def neverFree : Nat → List Bool → Bool
  | _, [] => true
  | c, e :: es => if e then neverFree 0 es else decide (c + 1 < 10) && neverFree (c + 1) es

/-- The level of the line, tick by tick, with several blocks on it. -/
def levelTrace : List Bool → Nat → List State → List Bool
  | [], _, _ => []
  | e :: es, t, nodes => busLevel e nodes :: levelTrace es (t + 1) (busTick e (Config.tsIn t) nodes)

/-- How often the watchdog was kicked. -/
def kickCount (es : List (Nat × Event)) : Nat := (es.filter fun e => e.2 = .wdtKick).length

end Sys2Proof.Machine
end

