-- ==== Sys2Proof/Certificates/Slice0/Obligations.lean ====
section
/-! DEFINITION. The statements for the provers, from the numbered rules of spec/. A statement about a wire row is
about `exec` of that row on a block in a stated place of its pass, at the source's timing (00_scope.md R7); that
such a row is the other nodes' drive from the current tick on is the model's reading (log 5).
Where a statement's docstring says "at tick level" it is about one tick of the block (40_step.md R87). -/

open Sys2Proof Sys2Proof.Machine

/-! ## The host port -/

/-- R171, R173, R174, R177, R179, R180: a write to a writable register stores its implemented bits and changes
nothing else. -/
def Obligations.HostWritesStoreImplementedBits : Prop :=
  ∀ (s : State) (v : Reg16), s.fault = none →
    exec (.wrCtrl v) s = .next { s with filterEn := v.getLsbD 0, errlogEn := v.getLsbD 1 } ∧
    exec (.wrOwnAddr v) s = .next { s with ownAddr := v.extractLsb' 0 12 } ∧
    exec (.wrPeerAddr v) s = .next { s with peerAddr := v.extractLsb' 0 12 } ∧
    exec (.wrBcastAddr v) s = .next { s with bcastAddr := v.extractLsb' 0 12 } ∧
    exec (.wrCtrlFlags v) s = .next { s with ctrlFlags := v.extractLsb' 0 4 } ∧
    exec (.wrTxbMode v) s = .next { s with txb := { s.txb with mode := v.getLsbD 0 } } ∧
    exec (.wrTxbMaster v) s = .next { s with txb := { s.txb with master := v.extractLsb' 0 12 } } ∧
    exec (.wrTxbSlave v) s = .next { s with txb := { s.txb with slave := v.extractLsb' 0 12 } } ∧
    exec (.wrTxbCtrl v) s = .next { s with txb := { s.txb with ctrl := v.extractLsb' 0 4 } } ∧
    exec (.wrTxbLen v) s = .next { s with txb := { s.txb with len := v.extractLsb' 0 8 } } ∧
    ∀ i : BitVec 5, exec (.wrTxbDataI i v) s = .next { s with
      txb := { s.txb with data := s.txb.data.set i.toNat (v.extractLsb' 0 8) i.isLt } }

/-- R183: writes to read-only registers are ignored, CMD reads 0, a reserved address reads 0 and ignores
writes, and none of these emits an event or ends the run. -/
def Obligations.ReadOnlyAndReservedAccess : Prop :=
  ∀ (s : State) (v : Reg16), s.fault = none →
    exec (.wrStatus v) s = .next s ∧ exec (.wrTxResult v) s = .next s ∧ exec (.wrRxResult v) s = .next s ∧
    exec (.wrRegTsLo v) s = .next s ∧ exec (.wrRegTsHi v) s = .next s ∧ exec (.wrFrMode v) s = .next s ∧
    exec (.wrFrMaster v) s = .next s ∧ exec (.wrFrSlave v) s = .next s ∧ exec (.wrFrCtrl v) s = .next s ∧
    exec (.wrFrLen v) s = .next s ∧ (∀ i : BitVec 5, exec (.wrFrDataI i v) s = .next s) ∧
    exec .rdCmd s = .next { s with reads := s.reads ++ [(s.time, 0)] } ∧
    ∀ a : RegAddr, reservedAddr a = true →
      exec (.wrRdReserved true a v) s = .next s ∧
      exec (.wrRdReserved false a v) s = .next { s with reads := s.reads ++ [(s.time, 0)] }

/-- R172: a read puts out the register's value, zero-extended to 16 bits, and changes no state of the
block. -/
def Obligations.HostReadsPutOutTheRegister : Prop :=
  ∀ s : State, s.fault = none →
    let out := fun v : Reg16 => Host.Outcome.next (φ := Fault) (ρ := Refusal)
      { s with reads := s.reads ++ [(s.time, v)] }
    exec .rdCtrl s = out (BitVec.ofNat 16 (2 * s.errlogEn.toNat + s.filterEn.toNat)) ∧
    exec .rdStatus s = out (statusWord s) ∧
    exec .rdTxResult s = out s.txResult ∧ exec .rdRxResult s = out s.rxResult ∧
    exec .rdOwnAddr s = out (s.ownAddr.setWidth 16) ∧ exec .rdPeerAddr s = out (s.peerAddr.setWidth 16) ∧
    exec .rdBcastAddr s = out (s.bcastAddr.setWidth 16) ∧
    exec .rdCtrlFlags s = out (s.ctrlFlags.setWidth 16) ∧
    exec .rdRegTsLo s = out (s.regTs.extractLsb' 0 16) ∧ exec .rdRegTsHi s = out (s.regTs.extractLsb' 16 16) ∧
    exec .rdTxbMode s = out (BitVec.ofNat 16 s.txb.mode.toNat) ∧
    exec .rdTxbMaster s = out (s.txb.master.setWidth 16) ∧
    exec .rdTxbSlave s = out (s.txb.slave.setWidth 16) ∧ exec .rdTxbCtrl s = out (s.txb.ctrl.setWidth 16) ∧
    exec .rdTxbLen s = out (s.txb.len.setWidth 16) ∧
    exec .rdFrMode s = out (BitVec.ofNat 16 s.frame.mode.toNat) ∧
    exec .rdFrMaster s = out (s.frame.master.setWidth 16) ∧
    exec .rdFrSlave s = out (s.frame.slave.setWidth 16) ∧ exec .rdFrCtrl s = out (s.frame.ctrl.setWidth 16) ∧
    exec .rdFrLen s = out (s.frame.len.setWidth 16) ∧
    ∀ i : BitVec 5,
      exec (.rdTxbDataI i) s = out ((s.txb.data[i.toNat]'i.isLt).setWidth 16) ∧
      exec (.rdFrDataI i) s = out ((s.frame.data[i.toNat]'i.isLt).setWidth 16)

/-- R77: writing CMD with bit 0 set sets TX_PENDING, with bit 0 clear it does nothing, and CMD reads 0. -/
def Obligations.TxGoSetsPending : Prop :=
  ∀ (s : State) (v : Reg16), s.fault = none →
    (v.getLsbD 0 = true → exec (.wrCmd v) s = .next { s with txPending := true }) ∧
    (v.getLsbD 0 = false → exec (.wrCmd v) s = .next s) ∧
    exec .rdCmd s = .next { s with reads := s.reads ++ [(s.time, 0)] }

/-- R84: what the pseudo-instructions leave: TXGO, CONFIG and CTRLSET write their registers; SEND stages the header
and the first n bytes, leaves the other bytes of TXB as they were, and sets TX_PENDING. That one tick takes all the
operations is the model's choice (log 8), and so are the operand widths (log 19). -/
def Obligations.PseudoInstructionsWriteTheirRegisters : Prop :=
  ∀ s : State, s.fault = none →
    exec .txgo s = .next { s with txPending := true } ∧
    (∀ f e : Bool, exec (.ctrlset f e) s = .next { s with filterEn := f, errlogEn := e }) ∧
    (∀ (own peer bcast : Addr12) (flags : Nibble),
      exec (.config own peer bcast flags) s =
        .next { s with ownAddr := own, peerAddr := peer, bcastAddr := bcast, ctrlFlags := flags }) ∧
    ∀ (m : Bool) (ma sa : Addr12) (c : Nibble) (ds : List Byte), WellFormed (.send m ma sa c ds) = true →
      exec (.send m ma sa c ds) s = .next { s with
        txb := { mode := m, master := ma, slave := sa, ctrl := c, len := BitVec.ofNat 8 ds.length,
                 data := overlay ds s.txb.data }
        txPending := true }

/-- R84: every pseudo-instruction does what the host operations of its expansion do one after another. That they are
issued with no tick between them is the model's choice (log 8); R84 leaves it to the host. -/
def Obligations.PseudoInstructionsExpand : Prop :=
  ∀ (i : Instr) (rows : List Instr) (s : State),
    WellFormed i = true → expansion i = some rows → exec i s = runRows rows s

/-- R82, R171, R172: the row a 24-bit word decodes to does HostWrite or HostRead at the word's address with the
word's data. -/
def Obligations.HostWordsRunHostReadAndWrite : Prop :=
  ∀ (w : HostWord) (s : State), s.fault = none →
    exec (decodeHost w) s = .next
      (if w.getLsbD 23 then hostWrite (w.extractLsb' 16 7) (w.extractLsb' 0 16) s
       else { s with reads := s.reads ++ [(s.time, hostRead (w.extractLsb' 16 7) s)] })

/-- R75, R78: a read-write register reads back what was written, masked to its implemented bits; no write
changes what another address reads, except a write of TX_GO, which STATUS shows; and a write to any other
address, CMD apart, changes nothing. -/
def Obligations.HostWriteReadBack : Prop :=
  ∀ (a b : RegAddr) (v : Reg16) (s : State),
    (∀ m, rwMask a = some m → hostRead a (hostWrite a v s) = v &&& m) ∧
    (rwMask a = none → a ≠ 0x0F#7 → hostWrite a v s = s) ∧
    (b ≠ a → ¬(a = 0x0F#7 ∧ b = 0x01#7) → hostRead b (hostWrite a v s) = hostRead b s)

/-- R184, R52: no row of the host port writes a sequencing register, FRAME, a result, the connection state or an
event; and a row that reads changes nothing at all but the record of read results. -/
def Obligations.HostOperationsLeaveThePassAlone : Prop :=
  ∀ (i : Instr) (s t : State), isHostRow i = true → exec i s = .next t →
    t.busOut = s.busOut ∧ t.phase = s.phase ∧ t.cnt = s.cnt ∧ t.elem = s.elem ∧ t.nbits = s.nbits ∧
    t.didx = s.didx ∧ t.shift = s.shift ∧ t.parity = s.parity ∧ t.hold = s.hold ∧ t.per = s.per ∧
    t.meas = s.meas ∧ t.acked = s.acked ∧ t.forme = s.forme ∧ t.frame = s.frame ∧
    t.respActive = s.respActive ∧ t.registered = s.registered ∧ t.regTs = s.regTs ∧
    t.txResult = s.txResult ∧ t.rxResult = s.rxResult ∧ t.wdtcnt = s.wdtcnt ∧ t.fault = none ∧
    t.par = s.par ∧ t.time = s.time ∧ t.feed = s.feed ∧ t.opTick = s.opTick ∧ t.events = s.events ∧
    (t.reads = s.reads ∨ ∃ v, t = { s with reads := s.reads ++ [(s.time, v)] })

/-! ## Encodings -/

/-- Every well-formed instruction decodes from its encoding (the table's encodings, R62 to R69, R75, R82, R84).
Rows that share an encoding by these rules (BIT1 and an unstretched slot, TXGO and `WR CMD, 1`) are told apart by
the tags of `Code`, which are the model's choice (log 7). -/
def Obligations.DecodeOfEncode : Prop :=
  ∀ i : Instr, WellFormed i = true → decode (encode i) = .ok i

/-- What the decoder accepts is well-formed and encodes to the same form again (the table's encodings, R62 to R69, R82,
R84); only a read's DATA, which R82 says is ignored, may come back as 0. Which rows a form can be is told by the tags of
`Code` (log 7), and a group with bits above the operand widths of SEND and CONFIG is no row's (log 19): both are the
model's choice. -/
def Obligations.DecodedReencodes : Prop :=
  ∀ (c : Code) (i : Instr), decode c = .ok i →
    WellFormed i = true ∧
    (encode i = c ∨
      ∃ a v, c = .host (hostWord false a v) ∧ reservedAddr a = false ∧ encode i = .host (hostWord false a 0))

/-- A few words written out from the table (R62 to R64, R82, R84) decode to the instructions they stand for. That
0x8F0001 is read as TXGO and not as `WR CMD, 1`, and that a symbol's leftmost tick is its most significant bit, is the
model's choice (log 7). -/
def Obligations.WordsDecodeAsWritten : Prop :=
  decodeTableWord 24 0x841140 = some (.wrOwnAddr 0x1140) ∧
  decodeTableWord 24 0x040000 = some .rdOwnAddr ∧
  decodeTableWord 24 0xA0001F = some (.wrTxbDataI 0 0x1F) ∧
  decodeTableWord 24 0x7F0000 = some (.rdFrDataI 31) ∧
  decodeTableWord 24 0x8A0001 = some (.wrRdReserved true 0x0A 1) ∧
  decodeTableWord 24 0x8F0001 = some .txgo ∧
  decodeTableWord 24 0x8F0000 = some (.wrCmd 0) ∧
  decodeTableWord 10 0b1111100000 = some .bit1 ∧
  decodeTableWord 10 0b1111111110 = some .bit0 ∧
  decodeTableWord 10 0b1111111100 = none

/-! ## The machine's step -/

/-- A step runs the instruction that the next scheduled input decodes to, with that input taken off the feed and, for a
row of the host port, the tick noted as one with an operation; `withFetchWord` schedules the row its bits decode to.
A form that decodes to none runs too: its ticks or symbols pass on the line (R79), its words are operations of the host
in the current tick (R85); a host operation word always decodes (R85). The feed, the note and such forms are the
model's (log 2, log 20, log 21). -/
def Obligations.StepRunsTheDecodedInstruction : Prop :=
  (∀ (s : State) (c : Code) (rest : List Input) (i : Instr),
    s.fault = none → s.feed = .code c :: rest → decode c = .ok i →
      step s = exec i { s with feed := rest, opTick := if isHostRow i then some s.time else s.opTick }) ∧
  (∀ (s : State) (c : Code) (rest : List Input) (e : DecodeError),
    s.fault = none → s.feed = .code c :: rest → decode c = .error e →
      (∀ slot line, c = .symbol slot line → step s = .next (drive line { s with feed := rest })) ∧
      (∀ f ss, c = .field f ss → step s = .next (drive (wave s.par ss) { s with feed := rest })) ∧
      (∀ ss, c = .frame ss → step s = .next (drive (wave s.par ss) { s with feed := rest })) ∧
      (∀ ws, c = .pseudo ws → step s = .next (ws.foldl (fun u w => hostOp w u)
        { s with feed := rest, opTick := if ws = [] then s.opTick else some s.time })) ∧
      ∀ w, c ≠ .host w) ∧
  ∀ (s : State) (nbits w : Nat) (i : Instr),
    s.fault = none → decodeTableWord nbits w = some i →
      step (s.withFetchWord nbits w) =
        exec i { s with opTick := if isHostRow i then some s.time else s.opTick }

/-- R86, R87, R83: a scheduled tick applies its host operations in issue order and then takes one tick with its
drive and timestamp; with nothing scheduled a tick takes the free inputs (log 3); TICKS 0 in a tick with no operation
is over at once, and WAIT e is over after the tick that emitted e (log 16). -/
def Obligations.ScheduledTicksPass : Prop :=
  ∀ (s : State) (rest : List Input), s.fault = none →
    (∀ (ext : Bool) (ops : List HostWord) (ts : Stamp), s.feed = .cycle ⟨false, ext, ops, ts⟩ :: rest →
      step s = .next (tick ext ts (ops.foldl (fun u w => hostOp w u) { s with feed := rest }))) ∧
    (s.feed = [] → step s = .next (tick (Config.extDrive s.time) (Config.tsIn s.time) s)) ∧
    (s.feed = .ticks 0 :: rest → s.opTick ≠ some s.time → step s = .next { s with feed := rest }) ∧
    ∀ e : EventName, s.feed = .wait e :: rest →
      ∃ t, step s = .next t ∧ { t with feed := s.feed } = tick (Config.extDrive s.time) (Config.tsIn s.time) s ∧
        (t.feed = rest ↔ ∃ x, x ∈ t.events ∧ x.1 = s.time ∧ eventName x.2 = e) ∧
        (t.feed = rest ∨ t.feed = .wait e :: rest)

/-- R83: TICKS n lets exactly n ticks pass with no host operation: n from a tick in which none has been issued, and the
current one before them where one has (log 16); then the next input is due. No fault ends the run. -/
def Obligations.TicksPassesItsTicks : Prop :=
  ∀ (s t : State) (rest : List Input) (n m : Nat), s.fault = none → s.feed = .ticks n :: rest →
    (∀ u, s.opTick = some u → u ≤ s.time) → m = (if s.opTick = some s.time then n + 1 else n) → 0 < m →
    t = freeTicks m { s with feed := rest } → t.fault = none →
    Host.Core.run Sys2Proof.core m s = .next t ∧ t.time = s.time + m ∧ t.feed = rest ∧ t.reads = s.reads ∧
      t.opTick = s.opTick

/-- R206: a tick with rst = 1 gives the reset state, discards its host operations and emits no event, and one with rst = 0
is Step; FAULT is not cleared by rst. The parameters, the tick number and the earlier outputs are the model's own
fields and go on (log 15). -/
def Obligations.ResetTickGivesTheResetState : Prop :=
  ∀ (s : State) (r : TickIn) (rest : List Input), s.feed = .cycle r :: rest →
    (s.fault = none → r.rst = true →
      step s = .next { State.resetWith s.par with
        time := s.time + 1
        feed := rest
        events := s.events
        reads := s.reads.filter fun x => x.1 ≠ s.time }) ∧
    (s.fault = none → r.rst = false → step s = .next (fullStep r.ext r.ops r.ts { s with feed := rest })) ∧
    (∀ f, s.fault = some f → step s = .fault f)

/-- R43: every element of the reset state at the value of the table. -/
def Obligations.ResetStateValues : Prop :=
  let r := State.reset
  r.busOut = false ∧ r.phase = .idle ∧ r.cnt = 0 ∧ r.wdtcnt = 0 ∧ r.elem = .el .none .val ∧ r.nbits = 0 ∧
  r.didx = 0 ∧ r.shift = 0 ∧ r.parity = false ∧ r.hold = 0 ∧ r.per = 0 ∧ r.meas = false ∧ r.acked = false ∧
  r.forme = false ∧
  (∀ fr, fr = r.frame ∨ fr = r.txb → fr.mode = false ∧ fr.master = 0 ∧ fr.slave = 0 ∧ fr.ctrl = 0 ∧
    fr.len = 0 ∧ ∀ i : Fin 32, fr.data[i] = 0) ∧
  r.txPending = false ∧ r.respActive = false ∧ r.registered = false ∧ r.regTs = 0 ∧ r.txResult = 0 ∧
  r.rxResult = 0 ∧ r.ownAddr = 0x140 ∧ r.peerAddr = 0x130 ∧ r.bcastAddr = Config.params.resetBcastAddr ∧
  r.ctrlFlags = 0xE ∧ r.filterEn = false ∧ r.errlogEn = false ∧ r.fault = none

/-- R94: a state with FAULT set has no step: no input and no instruction moves it. -/
def Obligations.FaultSetHasNoStep : Prop :=
  ∀ (s : State) (r : Fault), s.fault = some r → step s = .fault r ∧ ∀ i : Instr, exec i s = .fault r

/-- R193, at tick level: LengthOverflow is raised exactly where StartHostTx copies a TXB_LEN above 32 and where a
receive pass accepts the parity of a LENGTH field above 32. -/
def Obligations.LengthOverflowExactlyWhereListed : Prop :=
  ∀ (s : State) (ext : Bool) (ts : Stamp), s.fault = none →
    ((tick ext ts s).fault = some .lengthOverflow ↔
      (s.phase = .idle ∧ s.txPending = true ∧ 32 < s.txb.len.toNat) ∨
      (s.phase = .rxMeas ∧ s.busOut = false ∧ ext = false ∧ s.elem = .el .length .par ∧
        decide (s.cnt.toNat ≤ s.par.tThresh) = s.parity ∧ 32 < s.frame.len.toNat))

/-! ## Sending symbols and fields -/

/-- R99, R111: TX_BIT holds the line high for HOLD ticks and low for the rest of PER, whatever the other nodes
drive, and is then in the symbol's last tick. -/
def Obligations.SymbolHeldForItsPeriod : Prop :=
  ∀ (s : State) (exts : List Bool), s.fault = none → s.phase = .txBit → s.cnt = 0 → s.busOut = true →
    0 < s.hold.toNat → s.hold.toNat < s.per.toNat → exts.length + 1 = s.per.toNat →
    (∀ e, busTrace (exts ++ [e]) s =
      List.replicate s.hold.toNat true ++ List.replicate (s.per.toNat - s.hold.toNat) false) ∧
    drive exts s = { s with
      cnt := BitVec.ofNat 16 (s.per.toNat - 1)
      busOut := false
      wdtcnt := 0
      time := s.time + exts.length }

/-- R100, R101, R68: from the first tick of a value, the block's output is the symbols of the value, most
significant bit first, and of its parity, whatever the other nodes drive. -/
def Obligations.TransmittedFieldIsItsEncoding : Prop :=
  ∀ (s : State) (f : FieldCode) (v : BitVec 12) (exts : List Bool),
    s.fault = none → s.par.SourceTiming → fieldValue s.frame s.didx f = some v →
    exts.length = 10 * (sentSymbols f v).length →
    busTrace exts (txAt f s) = wave s.par (sentSymbols f v)

/-- R111: the TX_BIT arm does not read the line. -/
def Obligations.SenderIgnoresTheLine : Prop :=
  ∀ (s : State) (ts : Stamp), s.phase = .txBit → tick true ts s = tick false ts s

/-- R138 to R143, R145, R127, R222: a FRAME row whose slots are acknowledged, or any FRAME row where the frame is
Broadcast and its slots are sent, passing at a sender at the first tick of its start bit: the pass ends OK in the last
slot's tick 9, with FRAME as it was, whatever the row's other symbols are. -/
def Obligations.FrameSentAcknowledged : Prop :=
  ∀ (s : State) (m : Bool) (a : ParField 12) (b : AckField 12) (c : AckField 4) (l : AckField 8)
    (ds : List (AckField 8)),
    TxAtStart s → s.frame.len.toNat ≤ maxData → ds.length = s.frame.len.toNat →
    AllAcked b c l ds ∨ s.frame.mode = s.par.modeBcastBit →
    (s.par.bcastAckSlot = .emit ∨ s.frame.mode ≠ s.par.modeBcastBit) →
    ∃ t, exec (.frame m a b c l ds) s = .next t ∧ t.fault = none ∧ t.phase = .idle ∧ t.cnt = 0 ∧
      t.busOut = false ∧ t.frame = s.frame ∧ t.txResult = 0x0001 ∧ t.rxResult = s.rxResult ∧
      t.respActive = false ∧ t.registered = (s.respActive || s.registered) ∧
      t.regTs = (if s.respActive then Config.tsIn (s.time + 486 + 100 * ds.length) else s.regTs) ∧
      t.txPending = s.txPending ∧ t.time = s.time + 487 + 100 * ds.length ∧
      t.events = s.events ++ [(s.time + 486 + 100 * ds.length, .txDone 0x0001),
        (s.time + 486 + 100 * ds.length, .diagDump (dumpOf s.frame))]

/-- R67, R138: while such a row passes, what the sender itself puts on the line is FRAME's own symbols, parity
computed and each slot opened as a BIT1. -/
def Obligations.FrameTransmittedBitExactly : Prop :=
  ∀ (s : State) (m : Bool) (a : ParField 12) (b : AckField 12) (c : AckField 4) (l : AckField 8)
    (ds : List (AckField 8)),
    TxAtStart s → s.frame.len.toNat ≤ maxData → ds.length = s.frame.len.toNat →
    AllAcked b c l ds ∨ s.frame.mode = s.par.modeBcastBit →
    (s.par.bcastAckSlot = .emit ∨ s.frame.mode ≠ s.par.modeBcastBit) →
    busTrace (wave s.par (frameSymbols m a b c l ds)) s = wave s.par (sentFrame [.one] s.frame)

/-- R123, R128: under BCAST_ACK_SLOT = OMIT a Broadcast frame goes out with no slot and takes no time for one: whatever
the other nodes drive, the sender puts FRAME's symbols without slots on the line and ends the pass OK, FRAME as it was,
after 487 + 100n - 10(3 + n) ticks. -/
def Obligations.BroadcastFrameOmittingSlots : Prop :=
  ∀ (s : State) (exts : List Bool) (n stop : Nat),
    TxAtStart s → s.frame.len.toNat ≤ maxData → s.par.bcastAckSlot = .skip → s.frame.mode = s.par.modeBcastBit →
    n = s.frame.len.toNat → exts.length = 487 + 100 * n - 10 * (3 + n) → stop = s.time + exts.length - 1 →
    busTrace exts s = wave s.par (sentFrame [] s.frame) ∧
    ∃ t, drive exts s = t ∧ t.fault = none ∧ t.phase = .idle ∧ t.cnt = 0 ∧ t.busOut = false ∧
      t.frame = s.frame ∧ t.txResult = 0x0001 ∧ t.rxResult = s.rxResult ∧ t.respActive = false ∧
      t.registered = (s.respActive || s.registered) ∧
      t.regTs = (if s.respActive then Config.tsIn stop else s.regTs) ∧
      t.txPending = s.txPending ∧ t.time = s.time + exts.length ∧
      t.events = s.events ++ [(stop, .txDone 0x0001), (stop, .diagDump (dumpOf s.frame))]

/-- R139 to R142, R127: a field row with its slot acknowledged, or any where the frame is Broadcast and its slots are
sent, passing at a sender at the field's first tick, leaves exactly the state at the next field's first tick. -/
def Obligations.FieldRowAcknowledgedAtSender : Prop :=
  ∀ (s : State) (f g : FieldCode) (row : Instr) (d : Byte) (k : Bool),
    s.fault = none → s.par.SourceTiming →
    (s.par.bcastAckSlot = .emit ∨ s.frame.mode ≠ s.par.modeBcastBit) →
    (k = false ∨ s.frame.mode = s.par.modeBcastBit) →
    ((f = .slave ∧ g = .control ∧ d = s.didx ∧ ∃ x, x.k = k ∧ row = .fieldSlave x) ∨
      (f = .control ∧ g = .length ∧ d = s.didx ∧ ∃ x, x.k = k ∧ row = .fieldControl x) ∨
      (f = .length ∧ g = .data ∧ d = 0 ∧ s.frame.len ≠ 0 ∧ ∃ x, x.k = k ∧ row = .fieldLength x) ∨
      (f = .data ∧ g = .data ∧ d = s.didx + 1 ∧ s.didx.toNat + 1 < s.frame.len.toNat ∧
        s.didx.toNat + 1 < maxData ∧ ∃ x, x.k = k ∧ row = .fieldData x)) →
    ∃ t, exec row (txAt f s) = .next t ∧
      t = { txAt g { s with didx := d } with
        meas := false
        acked := true
        wdtcnt := 0
        time := s.time + rowTicks row }

/-- R132, R187, R144: the same rows with the slot not acknowledged end a Normal frame's pass with NAK and the
field, and the line is released. -/
def Obligations.FieldRowNotAcknowledgedAtSender : Prop :=
  ∀ (s : State) (f : FieldCode) (row : Instr),
    s.fault = none → s.par.SourceTiming → s.frame.mode ≠ s.par.modeBcastBit →
    ((f = .slave ∧ ∃ x, x.k = true ∧ row = .fieldSlave x) ∨
      (f = .control ∧ ∃ x, x.k = true ∧ row = .fieldControl x) ∨
      (f = .length ∧ ∃ x, x.k = true ∧ row = .fieldLength x) ∨
      (f = .data ∧ s.didx.toNat < maxData ∧ ∃ x, x.k = true ∧ row = .fieldData x)) →
    ∃ t, exec row (txAt f s) = .next t ∧ t.fault = none ∧ t.phase = .idle ∧ t.cnt = 0 ∧ t.busOut = false ∧
      t.frame = s.frame ∧ t.txResult = errorCode 2 f s.didx ∧ t.respActive = false ∧
      t.events = s.events ++ stamped (s.time + rowTicks row - 1)
        (.txDone (errorCode 2 f s.didx) :: errorLog s (errorCode 2 f s.didx)) ∧
      t.time = s.time + rowTicks row

/-- R139 to R142 for the fields with no slot: the mode and master rows at a sender. -/
def Obligations.SlotlessFieldRowAtSender : Prop :=
  ∀ s : State, s.fault = none → s.par.SourceTiming →
    (∀ m : Bool, ∃ t, exec (.fieldMode m) (txAt .mode s) = .next t ∧
      t = { txAt .master s with wdtcnt := 0, time := s.time + 10 }) ∧
    (∀ x : ParField 12, ∃ t, exec (.fieldMaster x) (txAt .master s) = .next t ∧
      t = { txAt .slave s with wdtcnt := 0, time := s.time + 130 })

/-! ## Arbitration -/

/-- R117, R118: from ARB, ten low samples in a row (counting those already seen) start the start bit, and nothing is
on the line before. -/
def Obligations.BusFreeThenStartBit : Prop :=
  ∀ s : State, s.fault = none → s.par.SourceTiming → s.phase = .arb → s.busOut = false → s.cnt.toNat < 10 →
    drive (List.replicate (10 - s.cnt.toNat) false) s =
      encodeStart { s with wdtcnt := 0, time := s.time + (10 - s.cnt.toNat) }

/-- R119, R120: while the other nodes never leave ten low ticks in a row, the block stays in ARB: it sends
nothing, receives nothing, and writes no result and no event. -/
def Obligations.BusyLineKeepsArbitrating : Prop :=
  ∀ (s : State) (exts : List Bool), s.fault = none → s.par.SourceTiming → s.phase = .arb → s.busOut = false →
    exts ≠ [] → neverFree s.cnt.toNat exts = true →
    ∃ c : BitVec 16, c.toNat < 10 ∧
      drive exts s = { s with cnt := c, wdtcnt := 0, time := s.time + exts.length }

/-- R135, R136, R222: a pending transmit with a length of at most 32 copies TXB to FRAME in the IDLE step and,
on an idle line, is at the first tick of its start bit 11 ticks later. -/
def Obligations.PendingFrameStartsElevenTicksLater : Prop :=
  ∀ s : State, s.fault = none → s.par.SourceTiming → s.phase = .idle → s.busOut = false → s.txPending = true →
    s.txb.len.toNat ≤ maxData →
    ∃ t, drive (List.replicate 11 false) s = t ∧ TxAtStart t ∧ t.frame = s.txb ∧ t.txb = s.txb ∧
      t.txPending = false ∧ t.txResult = 0 ∧ t.didx = 0 ∧ t.time = s.time + 11 ∧
      passEvents t.events = passEvents s.events

/-- R92: in IDLE a pending transmit comes first, then a high sample starts a start candidate, and otherwise
nothing changes but the watchdog's count. At tick level. -/
def Obligations.IdleTakesPendingThenPolls : Prop :=
  ∀ (s : State) (ext : Bool) (ts : Stamp), s.phase = .idle → s.busOut = false →
    (s.txPending = true → tick ext ts s =
      { startHostTx { watchdog s with txPending := false } with time := s.time + 1 }) ∧
    (s.txPending = false → ext = true → tick ext ts s =
      { watchdog s with phase := .startMeas, cnt := 1, time := s.time + 1 }) ∧
    (s.txPending = false → ext = false → tick ext ts s = { watchdog s with time := s.time + 1 })

/-! ## The acknowledge slot -/

/-- R124 to R127, R132: a slot the other nodes hold high for w ticks is high for W = max 5 w ticks and lasts
max (W + 1) 10; in its last step the next element starts if W exceeds 7 or the frame is Broadcast, else the pass ends
in NAK. -/
def Obligations.SenderSlotDecision : Prop :=
  ∀ (s : State) (f : FieldCode) (w : Nat), s.fault = none → s.par.SourceTiming → s.elem = .el f .ack → w ≤ 46 →
    let high := max 5 w
    let len := max (high + 1) 10
    let last : State := { openSlot s with
      cnt := BitVec.ofNat 16 (len - 1)
      meas := false
      acked := decide (7 < high) || decide (s.frame.mode = s.par.modeBcastBit)
      busOut := false
      wdtcnt := 0
      time := s.time + (len - 1) }
    drive (List.replicate w true ++ List.replicate (len - w) false) (openSlot s) =
      { (if 7 < high ∨ s.frame.mode = s.par.modeBcastBit then
          advanceTx (Config.tsIn (s.time + (len - 1))) last
        else
          txEnd .nak f (if f = .data then s.didx else 0) (Config.tsIn (s.time + (len - 1))) last) with
        time := s.time + len }

/-- R129, R130: from the sender's slot tick 0 the addressed receiver drives slot ticks 1 to 8 and no other,
whatever the line shows meanwhile, so the line is high for 9 ticks. -/
def Obligations.AddressedReceiverStretchesSlot : Prop :=
  ∀ (s : State) (f : FieldCode) (exts : List Bool),
    s.fault = none → s.par.SourceTiming → s.phase = .rxWaithigh → s.busOut = false → s.elem = .el f .ack →
    s.forme = true → exts.length = 8 →
    busTrace (true :: (exts ++ [false])) s = false :: (List.replicate 8 true ++ [false])

/-- R131: a receiver that is not addressed drives nothing in a slot: neither slot row makes it drive, and each
moves it on to the next field's first symbol. -/
def Obligations.DiscardedSlotMovesOn : Prop :=
  ∀ (s : State) (f g : FieldCode) (d : Byte),
    s.fault = none → s.par.SourceTiming → s.phase = .rxWaithigh → s.busOut = false → s.elem = .el f .ack →
    s.forme = false → nextElem s.elem s.didx s.frame.len = some (.el g .val, d) →
    exec .ackSlotNotAcked s = .next (rxNext g 4 10 { s with didx := d }) ∧
    exec .ackSlotAcked s = .next (rxNext g 0 10 { s with didx := d }) ∧
    busTrace bit1Wave s = List.replicate 10 false ∧ busTrace bit0Wave s = List.replicate 10 false

/-! ## Receiving symbols and fields -/

/-- R113 to R116: a pulse of w high ticks seen from IDLE that EDGE_TIMEOUT does not cut off, whatever follows it, is
accepted as a start for
40 ≤ w < 47, which clears FRAME and opens the receive pass, and is else rejected as a malformed start, which
leaves FRAME as it was. -/
def Obligations.StartWindowIsHalfOpen : Prop :=
  ∀ (s : State) (w : Nat), Listening s → 1 ≤ w → NotCutOff s.par w →
    ∃ t, drive (List.replicate w true ++ [false]) s = t ∧ t.fault = none ∧ t.time = s.time + w + 1 ∧
      t.busOut = false ∧ t.registered = s.registered ∧ t.txResult = s.txResult ∧
      (40 ≤ w ∧ w < 47 →
        t.phase = .rxWaithigh ∧ t.elem = .el .mode .val ∧ t.nbits = 1 ∧ t.shift = 0 ∧ t.parity = false ∧
        t.cnt = 0 ∧ t.frame = FrameBuf.zero ∧ t.forme = false ∧ t.didx = 0 ∧ t.rxResult = s.rxResult ∧
        passEvents t.events = passEvents s.events) ∧
      (w < 40 ∨ 47 ≤ w →
        t.phase = .idle ∧ t.cnt = 0 ∧ t.frame = s.frame ∧ t.rxResult = 0x0015 ∧
        passEvents t.events = passEvents s.events ++
          stamped (s.time + w) (.rxDone 0x0015 :: errorLog s 0x0015))

/-- R115, R149: the START row seen by a listening block leaves it at the mode bit of a new receive pass. -/
def Obligations.StartSymbolOpensReceivePass : Prop :=
  ∀ s : State, Listening s →
    ∃ t, exec .start s = .next t ∧ RxAt .mode t ∧ t.cnt = 4 ∧ t.frame = FrameBuf.zero ∧ t.forme = false ∧
      t.didx = 0 ∧ t.rxResult = s.rxResult ∧ t.txResult = s.txResult ∧ t.registered = s.registered ∧
      t.regTs = s.regTs ∧ t.respActive = s.respActive ∧ t.txPending = false ∧ t.time = s.time + 47 ∧
      passEvents t.events = passEvents s.events

/-- R103, R104, R106: a pulse of w high ticks inside a value that EDGE_TIMEOUT does not cut off is taken as a 1 if w ≤ 7 and as a 0 if w ≥ 8,
shifted in at bit 0 and added to the parity; so the rows BIT1 and BIT0 deliver a 1 and a 0. -/
def Obligations.PulseDecodesByItsWidth : Prop :=
  ∀ (s : State) (f : FieldCode),
    s.fault = none → s.par.SourceTiming → s.phase = .rxWaithigh → s.busOut = false → s.elem = .el f .val →
    2 ≤ s.nbits.toNat →
    (∀ w : Nat, 1 ≤ w → NotCutOff s.par w →
      drive (List.replicate w true ++ [false]) s = { s with
        shift := if w ≤ 7 then s.shift <<< 1 ||| 1 else s.shift <<< 1
        parity := if w ≤ 7 then !s.parity else s.parity
        nbits := s.nbits - 1
        cnt := 0
        wdtcnt := 0
        time := s.time + w + 1 }) ∧
    exec .bit1 s = .next { s with
      shift := s.shift <<< 1 ||| 1, parity := !s.parity, nbits := s.nbits - 1, cnt := 4, wdtcnt := 0,
      time := s.time + 10 } ∧
    exec .bit0 s = .next { s with
      shift := s.shift <<< 1, nbits := s.nbits - 1, cnt := 0, wdtcnt := 0, time := s.time + 10 }

/-- R150, R151: the mode row at a receiver stores the mode bit and goes on to the master address; the master row,
parity right, stores the address and goes on to the slave address. -/
def Obligations.ModeAndMasterReceived : Prop :=
  (∀ (s : State) (m : Bool), RxAt .mode s →
    exec (.fieldMode m) s =
      .next (rxNext .master (restAfter m) 10 { s with frame := { s.frame with mode := m } })) ∧
  ∀ (s : State) (a : ParField 12), RxAt .master s → a.p = parityOf a.v →
    exec (.fieldMaster a) s =
      .next (rxNext .slave (restAfter a.p) 130 { s with frame := { s.frame with master := a.v } })

/-- R152, R153, R154: the slave row, parity right, stores the address, sets forMe by comparing it with
OWN_ADDR, and goes on to the control field, the slot stretched if the frame is for this node. -/
def Obligations.SlaveFieldReceived : Prop :=
  ∀ (s : State) (b : AckField 12), RxAt .slave s → b.p = parityOf b.v →
    exec (.fieldSlave b) s =
      .next (rxNext .control (restAfterSlot (decide (b.v = s.ownAddr)) b.k) 140
        { s with frame := { s.frame with slave := b.v }, forme := decide (b.v = s.ownAddr) })

/-- R155 to R157, R154: the control row, the length row with a length from 1 to 32, and a data row that is not the
last, each with its parity right, store their value and go on to the next field, the slot answered if the frame
is for this node. -/
def Obligations.ControlLengthDataReceived : Prop :=
  (∀ (s : State) (c : AckField 4), RxAt .control s → c.p = parityOf c.v →
    exec (.fieldControl c) s =
      .next (rxNext .length (restAfterSlot s.forme c.k) 60 { s with frame := { s.frame with ctrl := c.v } })) ∧
  (∀ (s : State) (l : AckField 8), RxAt .length s → l.p = parityOf l.v → l.v ≠ 0 → l.v.toNat ≤ maxData →
    exec (.fieldLength l) s =
      .next (rxNext .data (restAfterSlot s.forme l.k) 100
        { s with frame := { s.frame with len := l.v }, didx := 0 })) ∧
  ∀ (s : State) (d : AckField 8) (i : Nat) (hi : i < 32), RxAt .data s → s.didx.toNat = i →
    i + 1 < s.frame.len.toNat → d.p = parityOf d.v →
    exec (.fieldData d) s =
      .next (rxNext .data (restAfterSlot s.forme d.k) 100
        { s with frame := { s.frame with data := s.frame.data.set i d.v hi }, didx := s.didx + 1 })

/-- R156, R193: a length above 32 with its parity right stops the model where the parity is accepted, the slot
never answered. -/
def Obligations.OverlongLengthStopsTheModel : Prop :=
  ∀ (s : State) (l : AckField 8), RxAt .length s → l.p = parityOf l.v → maxData < l.v.toNat →
    ∃ t, exec (.fieldLength l) s = .next t ∧ t.fault = some .lengthOverflow ∧ t.frame.len = l.v ∧
      t.time = s.time + 80 + (if l.p then 6 else 10) ∧ t.events = s.events ∧ step t = .fault .lengthOverflow

/-- R186, R155 to R158, R191, at tick level: a parity symbol that decodes to the wrong bit ends the pass at once
with the field's code, clears REGISTERED where the rule says so, releases the line and returns to IDLE. -/
def Obligations.ParityErrorEndsThePass : Prop :=
  ∀ (s : State) (f : FieldCode) (ts : Stamp),
    s.fault = none → s.phase = .rxMeas → s.busOut = false → s.elem = .el f .par →
    decide (s.cnt.toNat ≤ s.par.tThresh) ≠ s.parity →
    ∃ t, tick false ts s = t ∧ t.fault = none ∧ t.phase = .idle ∧ t.cnt = 0 ∧ t.busOut = false ∧
      t.rxResult = errorCode 4 f s.didx ∧ t.frame = s.frame ∧ t.regTs = s.regTs ∧
      t.registered = (s.registered &&
        !(s.forme && (decide (f = .control) || decide (f = .length) ||
          (decide (f = .data) && s.par.clearRegOnDataParity)))) ∧
      t.events = s.events ++
        stamped s.time (.rxDone (errorCode 4 f s.didx) :: errorLog s (errorCode 4 f s.didx))

/-- R66, R68, R161, R165 to R167, R222: a well-formed frame with its parity right, of at most 32 bytes, that is no probe to
this node, passing at a listening block, is received in full: FRAME holds it, the node is registered if it is
addressed, and the pass ends DELIVERED with the frame surfaced, or FILTERED, in the tick R222 gives. -/
def Obligations.FrameReceivedInFull : Prop :=
  ∀ (s : State) (m : Bool) (a : ParField 12) (b : AckField 12) (c : AckField 4) (l : AckField 8)
    (ds : List (AckField 8)),
    Listening s → WellFormed (.frame m a b c l ds) = true → ParityRight a b c l ds → l.v.toNat ≤ maxData →
    probeFor s (frameOf m a b c l ds) = false →
    let fr := frameOf m a b c l ds
    let mine := decide (b.v = s.ownAddr)
    let stop := s.time + rxEndTick mine (lastSlot l ds) ds.length
    ∃ t, exec (.frame m a b c l ds) s = .next t ∧ t.fault = none ∧ t.phase = .idle ∧ t.busOut = false ∧
      t.frame = fr ∧ t.forme = mine ∧ t.registered = (mine || s.registered) ∧
      t.regTs = (if mine then Config.tsIn stop else s.regTs) ∧
      t.rxResult = (if surfacedBy s fr then 0x0001 else 0x0002) ∧ t.txResult = s.txResult ∧
      t.respActive = s.respActive ∧ t.txPending = false ∧ t.time = s.time + 487 + 100 * ds.length ∧
      passEvents t.events = passEvents s.events ++
        (if surfacedBy s fr then stamped stop [.rxDone 0x0001, .rxValid, .diagDump (dumpOf fr)]
         else stamped stop [.rxDone 0x0002])

/-- R161 to R164, R223: the liveness probe addressed to this node is not surfaced: the node is registered, the reply stands
in FRAME with the probe's token at its offset, and the block is arbitrating for it. For a REPLY_DATA that is not 6 bytes
long, or a TOKEN_OFFSET outside it, the length and the dropped token are the model's choice (log 23). -/
def Obligations.ProbeAnswered : Prop :=
  ∀ (s : State) (m : Bool) (a : ParField 12) (b : AckField 12) (c : AckField 4) (l : AckField 8)
    (d0 d1 d2 : AckField 8),
    Listening s → ParityRight a b c l [d0, d1, d2] → b.v = s.ownAddr → l.v = 3 →
    d0.v = s.par.probeOpcode → d2.v = s.par.probeTerm →
    ∃ t, exec (.frame m a b c l [d0, d1, d2]) s = .next t ∧ t.fault = none ∧ t.phase = .arb ∧ t.cnt = 1 ∧
      t.busOut = false ∧ t.respActive = true ∧ t.registered = true ∧ t.regTs = Config.tsIn (s.time + 785) ∧
      t.rxResult = 0x0003 ∧ t.txResult = 0 ∧ t.didx = 0 ∧
      t.frame.mode = !s.par.modeBcastBit ∧ t.frame.master = s.ownAddr ∧ t.frame.slave = s.peerAddr ∧
      t.frame.ctrl = s.ctrlFlags ∧ t.frame.len = BitVec.ofNat 8 s.par.replyData.length ∧
      (∀ i : Fin 32, t.frame.data[i] =
        if i.val = s.par.tokenOffset ∧ i.val < s.par.replyData.length then d1.v
        else s.par.replyData.getD i.val 0) ∧
      t.time = s.time + 787 ∧
      passEvents t.events = passEvents s.events ++ [(s.time + 785, .rxDone 0x0003)]

/-! ## Waits that end, and the end of a pass -/

/-- R190, R194: with EDGE_TIMEOUT = n, a line held high from IDLE ends the pass TIMEOUT (START) in the n-th tick; and
n low samples in RX_WAITHIGH, n high samples of one pulse in RX_MEAS, and n high ticks of a sender's slot end the
pass TIMEOUT with the element's field. -/
def Obligations.BoundedWaitsTimeOut : Prop :=
  (∀ (s : State) (n : Nat), Listening s → s.par.edgeTimeout = some n → 47 ≤ n → n < 65536 →
    ∃ t, drive (List.replicate n true) s = t ∧ t.fault = none ∧ t.phase = .idle ∧ t.rxResult = 0x0016 ∧
      t.frame = s.frame ∧ t.time = s.time + n ∧
      passEvents t.events = passEvents s.events ++
        stamped (s.time + n - 1) (.rxDone 0x0016 :: errorLog s 0x0016)) ∧
  ∀ (s : State) (f : FieldCode) (k : Kind) (n : Nat),
    s.fault = none → s.par.SourceTiming → s.par.edgeTimeout = some n → 47 ≤ n → n < 65536 →
    s.elem = .el f k → s.busOut = false →
    (s.phase = .rxWaithigh → s.cnt = 0 →
      ∃ t, drive (List.replicate n false) s = t ∧ t.phase = .idle ∧ t.rxResult = errorCode 6 f s.didx ∧
        t.events = s.events ++ stamped (s.time + n - 1)
          (.rxDone (errorCode 6 f s.didx) :: errorLog s (errorCode 6 f s.didx))) ∧
    (s.phase = .rxMeas → s.cnt = 1 →
      ∃ t, drive (List.replicate (n - 1) true) s = t ∧ t.phase = .idle ∧ t.rxResult = errorCode 6 f s.didx ∧
        t.events = s.events ++ stamped (s.time + n - 2)
          (.rxDone (errorCode 6 f s.didx) :: errorLog s (errorCode 6 f s.didx))) ∧
    ∃ t, drive (List.replicate n true) (openSlot s) = t ∧ t.phase = .idle ∧
      t.txResult = errorCode 3 f s.didx ∧ t.busOut = false ∧
      t.events = s.events ++ stamped (s.time + n - 1)
        (.txDone (errorCode 3 f s.didx) :: errorLog s (errorCode 3 f s.didx))

/-- R105: RX_REMAIN examines no sample: it ends T_REM ticks after the pulse's first high sample, in RX_WAITHIGH,
whatever the line does. -/
def Obligations.RemainWaitsOut : Prop :=
  ∀ (s : State) (exts : List Bool), s.fault = none → s.phase = .rxRemain → s.cnt.toNat < s.par.tRem →
    s.par.tRem < 65536 → exts.length = s.par.tRem - s.cnt.toNat →
    drive exts s =
      { s with phase := .rxWaithigh, cnt := 0, wdtcnt := 0, time := s.time + exts.length }

/-- R145, at tick level: a transmit pass that ends with RESP_ACTIVE = 1 sets REGISTERED and REG_TS whatever its
result was, and clears RESP_ACTIVE; with RESP_ACTIVE = 0 it leaves both as they were. RX_RESULT keeps its
value. -/
def Obligations.ResponderPassEndRegisters : Prop :=
  ∀ (s : State) (ext : Bool) (ts : Stamp), s.fault = none → s.phase = .txBit ∨ s.phase = .txAck →
    (tick ext ts s).phase = .idle →
    (tick ext ts s).respActive = false ∧ (tick ext ts s).rxResult = s.rxResult ∧
    (s.respActive = true → (tick ext ts s).registered = true ∧ (tick ext ts s).regTs = ts) ∧
    (s.respActive = false →
      (tick ext ts s).registered = s.registered ∧ (tick ext ts s).regTs = s.regTs)

/-- R169: the complete list of writes of REGISTERED and REG_TS, at tick level; no host operation reaches
them. -/
def Obligations.RegistrationChangesOnlyWhereListed : Prop :=
  (∀ (s : State) (ext : Bool) (ts : Stamp),
    let t := tick ext ts s
    let set := (s.forme = true ∧ (s.phase = .rxMeas ∨ s.phase = .rxAckdrive) ∧ t.elem = .fin) ∨
      (s.respActive = true ∧ (s.phase = .txBit ∨ s.phase = .txAck) ∧ t.phase = .idle)
    let clear := s.forme = true ∧ s.phase = .rxMeas ∧
      (s.elem = .el .control .par ∨ s.elem = .el .length .par ∨
        (s.elem = .el .data .par ∧ s.par.clearRegOnDataParity = true)) ∧
      s.busOut = false ∧ ext = false ∧ decide (s.cnt.toNat ≤ s.par.tThresh) ≠ s.parity
    (t.registered = s.registered ∧ t.regTs = s.regTs) ∨
    (set ∧ t.registered = true ∧ t.regTs = ts) ∨
    (clear ∧ t.registered = false ∧ t.regTs = s.regTs)) ∧
  ∀ (w : HostWord) (s : State), (hostOp w s).registered = s.registered ∧ (hostOp w s).regTs = s.regTs

/-! ## Frames of the tick, and the whole machine -/

/-- R32, R39, R179, R203: a tick and a wire row leave the host's registers, the parameters and the
scheduled inputs as they were; TX_PENDING is only ever cleared, and only by an IDLE step. -/
def Obligations.TicksLeaveHostRegisters : Prop :=
  (∀ (s : State) (ext : Bool) (ts : Stamp),
    (tick ext ts s).txPending = (s.txPending && !decide (s.phase = .idle))) ∧
  (∀ (s : State) (ext : Bool) (ts : Stamp) (t : State), t = tick ext ts s →
    t.txb = s.txb ∧ t.ownAddr = s.ownAddr ∧ t.peerAddr = s.peerAddr ∧ t.bcastAddr = s.bcastAddr ∧
    t.ctrlFlags = s.ctrlFlags ∧ t.filterEn = s.filterEn ∧ t.errlogEn = s.errlogEn ∧ t.par = s.par ∧
    t.feed = s.feed ∧ t.opTick = s.opTick ∧ t.reads = s.reads ∧ t.time = s.time + 1 ∧ s.events <+: t.events) ∧
  ∀ (i : Instr) (s t : State), isHostRow i = false → exec i s = .next t →
    t.txb = s.txb ∧ t.ownAddr = s.ownAddr ∧ t.peerAddr = s.peerAddr ∧ t.bcastAddr = s.bcastAddr ∧
    t.ctrlFlags = s.ctrlFlags ∧ t.filterEn = s.filterEn ∧ t.errlogEn = s.errlogEn ∧ t.par = s.par ∧
    t.feed = s.feed ∧ t.opTick = s.opTick ∧ t.reads = s.reads ∧ s.time ≤ t.time ∧ s.events <+: t.events

/-- R60, R120, R213: a tick of a transmit pass leaves FRAME, the last receive result and FORME as they were,
and takes no pending transmit. -/
def Obligations.TransmitPassKeepsFrame : Prop :=
  ∀ (s : State) (ext : Bool) (ts : Stamp) (t : State),
    s.phase = .arb ∨ s.phase = .txBit ∨ s.phase = .txAck → t = tick ext ts s →
    t.frame = s.frame ∧ t.rxResult = s.rxResult ∧ t.forme = s.forme ∧ t.txPending = s.txPending

/-- R62 to R65, R80, R221: a wire row lasts the ticks of its symbols: from every state with no fault, exec answers a next
state, that many ticks on unless the model stopped. -/
def Obligations.WireRowsTakeTheirPeriods : Prop :=
  ∀ (i : Instr) (s : State), isHostRow i = false → s.fault = none → s.par.SourceTiming →
    ∃ t, exec i s = .next t ∧ (t.fault = none → t.time = s.time + rowTicks i)

/-- R93: in IDLE the watchdog count goes up by one a tick and is cleared with one kick when it reaches
WDT_KICK_INTERVAL; in every other phase it is cleared and no kick comes. At tick level. -/
def Obligations.WatchdogKicks : Prop :=
  ∀ (s : State) (ext : Bool) (ts : Stamp),
    let t := tick ext ts s
    let kick := decide (s.phase = .idle ∧ s.wdtcnt + 1 = s.par.wdtKickInterval)
    t.wdtcnt = (if s.phase = .idle ∧ kick = false then s.wdtcnt + 1 else 0) ∧
    ∃ es, t.events = s.events ++ (if kick then [(s.time, .wdtKick)] else []) ++ es ∧ kickCount es = 0

/-- R93, R122: n ticks of a quiet line in IDLE with nothing pending kick the watchdog once for every
WDT_KICK_INTERVAL ticks, emit no other event and change nothing else but the tick number. -/
def Obligations.QuietIdleKicksEveryInterval : Prop :=
  ∀ (s : State) (n : Nat), s.fault = none → s.phase = .idle → s.busOut = false → s.txPending = false →
    s.wdtcnt.toNat < s.par.wdtKickInterval.toNat →
    ∃ t, drive (List.replicate n false) s = t ∧
      t.wdtcnt.toNat = (s.wdtcnt.toNat + n) % s.par.wdtKickInterval.toNat ∧
      kickCount t.events = kickCount s.events + (s.wdtcnt.toNat + n) / s.par.wdtKickInterval.toNat ∧
      passEvents t.events = passEvents s.events ∧
      { t with wdtcnt := s.wdtcnt, events := s.events } = { s with time := s.time + n }

/-- R74: the layout of STATUS, its bits 7:4 the code of PHASE in the table of R22. -/
def Obligations.StatusLayout : Prop :=
  ∀ s : State,
    (hostRead 0x01#7 s).getLsbD 0 = decide (s.phase ≠ .idle) ∧ (hostRead 0x01#7 s).getLsbD 1 = s.txPending ∧
    (hostRead 0x01#7 s).getLsbD 2 = s.registered ∧ (hostRead 0x01#7 s).getLsbD 3 = s.respActive ∧
    (hostRead 0x01#7 s).extractLsb' 4 4 =
      (match s.phase with
        | .idle => 0
        | .startMeas => 1
        | .rxWaithigh => 2
        | .rxMeas => 3
        | .rxRemain => 4
        | .rxAckdrive => 5
        | .arb => 6
        | .txBit => 7
        | .txAck => 8) ∧
    (hostRead 0x01#7 s).extractLsb' 8 8 = 0

/-- R102: the laws of Parity and its values. -/
def Obligations.ParityLaws : Prop :=
  (∀ (w : Nat) (v : BitVec w), parityOf v = decide (((msbFirst v w).filter id).length % 2 = 1)) ∧
  (∀ w : Nat, parityOf (0 : BitVec w) = false) ∧
  (∀ (w : Nat) (a b : BitVec w), parityOf (a ^^^ b) = (parityOf a ^^ parityOf b)) ∧
  (∀ (w n : Nat) (v : BitVec w), w ≤ n → parityOf (v.setWidth n) = parityOf v) ∧
  (∀ (w : Nat) (v : BitVec w), ((msbFirst v w ++ [parityOf v]).filter id).length % 2 = 0) ∧
  parityOf (0x140 : BitVec 12) = false ∧ parityOf (0x130 : BitVec 12) = true ∧
  parityOf (0xE : BitVec 4) = true ∧ parityOf (0x01 : BitVec 8) = true ∧ parityOf (0x1F : BitVec 8) = true ∧
  parityOf (0xAB : BitVec 8) = true ∧ parityOf (0xFFF : BitVec 12) = false

/-- The reset state meets the invariant, whatever the free parameters are (log 4). -/
def Obligations.InvariantAtReset : Prop := Inv State.reset

/-- R22, R89, R90, R96, R71 to R73: every step keeps the invariant: the block is at a legal place of a pass, its
counters are inside their bounds, its results hold codes that are written, and never a state no rule
covers; nor is an operation noted for a tick to come (log 20). -/
def Obligations.InvariantKeptByStep : Prop :=
  ∀ s t : State, Inv s → step s = .next t → Inv t

/-! ## Several blocks on one line -/

/-- R200, R20: the level of the line is high if any block or the remaining nodes drive it, and a tick of all the blocks
gives every running block that one level as its sample. That the blocks are a list stepped together, and that a block
stopped by FAULT stays as it is and keeps its drive, is the model's choice (log 17). -/
def Obligations.NodesSampleOneLevel : Prop :=
  ∀ (nodes : List State) (ext : Bool) (ts : Stamp),
    (busLevel ext nodes = true ↔ ext = true ∨ ∃ n ∈ nodes, n.busOut = true) ∧
    (∀ n ∈ nodes, lineOf (busLevel ext nodes) n = busLevel ext nodes) ∧
    ∀ L : Bool, (L = true ↔ ext = true ∨ ∃ n ∈ nodes, n.busOut = true) →
      busTick ext ts nodes = nodes.map fun n =>
        if n.fault = none then { arm L ts (watchdog n) with time := n.time + 1 } else n

/-- R109, R111, R121: two blocks that start values of one field in the same tick send in lockstep, and the line
carries the AND of the two values. That the blocks on one line are a list stepped together is the model's choice
(log 17). -/
def Obligations.LockstepCarriesTheAnd : Prop :=
  ∀ (s1 s2 : State) (f : FieldCode) (v1 v2 : BitVec 12) (t : Nat),
    s1.fault = none → s2.fault = none → s1.par = s2.par → s1.par.SourceTiming →
    fieldValue s1.frame s1.didx f = some v1 → fieldValue s2.frame s2.didx f = some v2 →
    levelTrace (List.replicate (10 * fieldWidth f) false) t [txAt f s1, txAt f s2] =
      wave s1.par ((msbFirst (v1 &&& v2) (fieldWidth f)).map symbolOf)
end

