-- ==== Sys2Proof/Laws/State.lean ====
section
/-! SUPPORT. One lemma per field for each named update of the state, so that no proof unfolds a record update. -/

namespace Sys2Proof.Machine

variable (s : State)

/-! ### emit -/

@[simp] theorem emit_par (es : List Event) : (emit es s).par = s.par := rfl
@[simp] theorem emit_busOut (es : List Event) : (emit es s).busOut = s.busOut := rfl
@[simp] theorem emit_phase (es : List Event) : (emit es s).phase = s.phase := rfl
@[simp] theorem emit_cnt (es : List Event) : (emit es s).cnt = s.cnt := rfl
@[simp] theorem emit_elem (es : List Event) : (emit es s).elem = s.elem := rfl
@[simp] theorem emit_nbits (es : List Event) : (emit es s).nbits = s.nbits := rfl
@[simp] theorem emit_didx (es : List Event) : (emit es s).didx = s.didx := rfl
@[simp] theorem emit_shift (es : List Event) : (emit es s).shift = s.shift := rfl
@[simp] theorem emit_parity (es : List Event) : (emit es s).parity = s.parity := rfl
@[simp] theorem emit_hold (es : List Event) : (emit es s).hold = s.hold := rfl
@[simp] theorem emit_per (es : List Event) : (emit es s).per = s.per := rfl
@[simp] theorem emit_meas (es : List Event) : (emit es s).meas = s.meas := rfl
@[simp] theorem emit_acked (es : List Event) : (emit es s).acked = s.acked := rfl
@[simp] theorem emit_forme (es : List Event) : (emit es s).forme = s.forme := rfl
@[simp] theorem emit_frame (es : List Event) : (emit es s).frame = s.frame := rfl
@[simp] theorem emit_txb (es : List Event) : (emit es s).txb = s.txb := rfl
@[simp] theorem emit_txPending (es : List Event) : (emit es s).txPending = s.txPending := rfl
@[simp] theorem emit_respActive (es : List Event) : (emit es s).respActive = s.respActive := rfl
@[simp] theorem emit_registered (es : List Event) : (emit es s).registered = s.registered := rfl
@[simp] theorem emit_regTs (es : List Event) : (emit es s).regTs = s.regTs := rfl
@[simp] theorem emit_txResult (es : List Event) : (emit es s).txResult = s.txResult := rfl
@[simp] theorem emit_rxResult (es : List Event) : (emit es s).rxResult = s.rxResult := rfl
@[simp] theorem emit_ownAddr (es : List Event) : (emit es s).ownAddr = s.ownAddr := rfl
@[simp] theorem emit_peerAddr (es : List Event) : (emit es s).peerAddr = s.peerAddr := rfl
@[simp] theorem emit_bcastAddr (es : List Event) : (emit es s).bcastAddr = s.bcastAddr := rfl
@[simp] theorem emit_ctrlFlags (es : List Event) : (emit es s).ctrlFlags = s.ctrlFlags := rfl
@[simp] theorem emit_filterEn (es : List Event) : (emit es s).filterEn = s.filterEn := rfl
@[simp] theorem emit_errlogEn (es : List Event) : (emit es s).errlogEn = s.errlogEn := rfl
@[simp] theorem emit_wdtcnt (es : List Event) : (emit es s).wdtcnt = s.wdtcnt := rfl
@[simp] theorem emit_fault (es : List Event) : (emit es s).fault = s.fault := rfl
@[simp] theorem emit_time (es : List Event) : (emit es s).time = s.time := rfl
@[simp] theorem emit_feed (es : List Event) : (emit es s).feed = s.feed := rfl
@[simp] theorem emit_opTick (es : List Event) : (emit es s).opTick = s.opTick := rfl
@[simp] theorem emit_events (es : List Event) : (emit es s).events = s.events ++ stamped s.time es := rfl
@[simp] theorem emit_reads (es : List Event) : (emit es s).reads = s.reads := rfl

/-! ### raise -/

@[simp] theorem raise_par (r : Fault) : (raise r s).par = s.par := rfl
@[simp] theorem raise_busOut (r : Fault) : (raise r s).busOut = s.busOut := rfl
@[simp] theorem raise_phase (r : Fault) : (raise r s).phase = s.phase := rfl
@[simp] theorem raise_cnt (r : Fault) : (raise r s).cnt = s.cnt := rfl
@[simp] theorem raise_elem (r : Fault) : (raise r s).elem = s.elem := rfl
@[simp] theorem raise_nbits (r : Fault) : (raise r s).nbits = s.nbits := rfl
@[simp] theorem raise_didx (r : Fault) : (raise r s).didx = s.didx := rfl
@[simp] theorem raise_shift (r : Fault) : (raise r s).shift = s.shift := rfl
@[simp] theorem raise_parity (r : Fault) : (raise r s).parity = s.parity := rfl
@[simp] theorem raise_hold (r : Fault) : (raise r s).hold = s.hold := rfl
@[simp] theorem raise_per (r : Fault) : (raise r s).per = s.per := rfl
@[simp] theorem raise_meas (r : Fault) : (raise r s).meas = s.meas := rfl
@[simp] theorem raise_acked (r : Fault) : (raise r s).acked = s.acked := rfl
@[simp] theorem raise_forme (r : Fault) : (raise r s).forme = s.forme := rfl
@[simp] theorem raise_frame (r : Fault) : (raise r s).frame = s.frame := rfl
@[simp] theorem raise_txb (r : Fault) : (raise r s).txb = s.txb := rfl
@[simp] theorem raise_txPending (r : Fault) : (raise r s).txPending = s.txPending := rfl
@[simp] theorem raise_respActive (r : Fault) : (raise r s).respActive = s.respActive := rfl
@[simp] theorem raise_registered (r : Fault) : (raise r s).registered = s.registered := rfl
@[simp] theorem raise_regTs (r : Fault) : (raise r s).regTs = s.regTs := rfl
@[simp] theorem raise_txResult (r : Fault) : (raise r s).txResult = s.txResult := rfl
@[simp] theorem raise_rxResult (r : Fault) : (raise r s).rxResult = s.rxResult := rfl
@[simp] theorem raise_ownAddr (r : Fault) : (raise r s).ownAddr = s.ownAddr := rfl
@[simp] theorem raise_peerAddr (r : Fault) : (raise r s).peerAddr = s.peerAddr := rfl
@[simp] theorem raise_bcastAddr (r : Fault) : (raise r s).bcastAddr = s.bcastAddr := rfl
@[simp] theorem raise_ctrlFlags (r : Fault) : (raise r s).ctrlFlags = s.ctrlFlags := rfl
@[simp] theorem raise_filterEn (r : Fault) : (raise r s).filterEn = s.filterEn := rfl
@[simp] theorem raise_errlogEn (r : Fault) : (raise r s).errlogEn = s.errlogEn := rfl
@[simp] theorem raise_wdtcnt (r : Fault) : (raise r s).wdtcnt = s.wdtcnt := rfl
@[simp] theorem raise_fault (r : Fault) : (raise r s).fault = some r := rfl
@[simp] theorem raise_time (r : Fault) : (raise r s).time = s.time := rfl
@[simp] theorem raise_feed (r : Fault) : (raise r s).feed = s.feed := rfl
@[simp] theorem raise_opTick (r : Fault) : (raise r s).opTick = s.opTick := rfl
@[simp] theorem raise_events (r : Fault) : (raise r s).events = s.events := rfl
@[simp] theorem raise_reads (r : Fault) : (raise r s).reads = s.reads := rfl

/-! ### rxEnd -/

@[simp] theorem rxEnd_par (k : RxKind) (f : FieldCode) (i : Byte) : (rxEnd k f i s).par = s.par := rfl
@[simp] theorem rxEnd_busOut (k : RxKind) (f : FieldCode) (i : Byte) : (rxEnd k f i s).busOut = false := rfl
@[simp] theorem rxEnd_phase (k : RxKind) (f : FieldCode) (i : Byte) : (rxEnd k f i s).phase = .idle := rfl
@[simp] theorem rxEnd_cnt (k : RxKind) (f : FieldCode) (i : Byte) : (rxEnd k f i s).cnt = 0 := rfl
@[simp] theorem rxEnd_elem (k : RxKind) (f : FieldCode) (i : Byte) : (rxEnd k f i s).elem = s.elem := rfl
@[simp] theorem rxEnd_nbits (k : RxKind) (f : FieldCode) (i : Byte) : (rxEnd k f i s).nbits = s.nbits := rfl
@[simp] theorem rxEnd_didx (k : RxKind) (f : FieldCode) (i : Byte) : (rxEnd k f i s).didx = s.didx := rfl
@[simp] theorem rxEnd_shift (k : RxKind) (f : FieldCode) (i : Byte) : (rxEnd k f i s).shift = s.shift := rfl
@[simp] theorem rxEnd_parity (k : RxKind) (f : FieldCode) (i : Byte) :
    (rxEnd k f i s).parity = s.parity := rfl
@[simp] theorem rxEnd_hold (k : RxKind) (f : FieldCode) (i : Byte) : (rxEnd k f i s).hold = s.hold := rfl
@[simp] theorem rxEnd_per (k : RxKind) (f : FieldCode) (i : Byte) : (rxEnd k f i s).per = s.per := rfl
@[simp] theorem rxEnd_meas (k : RxKind) (f : FieldCode) (i : Byte) : (rxEnd k f i s).meas = s.meas := rfl
@[simp] theorem rxEnd_acked (k : RxKind) (f : FieldCode) (i : Byte) : (rxEnd k f i s).acked = s.acked := rfl
@[simp] theorem rxEnd_forme (k : RxKind) (f : FieldCode) (i : Byte) : (rxEnd k f i s).forme = s.forme := rfl
@[simp] theorem rxEnd_frame (k : RxKind) (f : FieldCode) (i : Byte) : (rxEnd k f i s).frame = s.frame := rfl
@[simp] theorem rxEnd_txb (k : RxKind) (f : FieldCode) (i : Byte) : (rxEnd k f i s).txb = s.txb := rfl
@[simp] theorem rxEnd_txPending (k : RxKind) (f : FieldCode) (i : Byte) :
    (rxEnd k f i s).txPending = s.txPending := rfl
@[simp] theorem rxEnd_respActive (k : RxKind) (f : FieldCode) (i : Byte) :
    (rxEnd k f i s).respActive = s.respActive := rfl
@[simp] theorem rxEnd_registered (k : RxKind) (f : FieldCode) (i : Byte) :
    (rxEnd k f i s).registered = s.registered := rfl
@[simp] theorem rxEnd_regTs (k : RxKind) (f : FieldCode) (i : Byte) : (rxEnd k f i s).regTs = s.regTs := rfl
@[simp] theorem rxEnd_txResult (k : RxKind) (f : FieldCode) (i : Byte) :
    (rxEnd k f i s).txResult = s.txResult := rfl
@[simp] theorem rxEnd_rxResult (k : RxKind) (f : FieldCode) (i : Byte) :
    (rxEnd k f i s).rxResult = resultWord (rxKindNum k) f i := rfl
@[simp] theorem rxEnd_ownAddr (k : RxKind) (f : FieldCode) (i : Byte) :
    (rxEnd k f i s).ownAddr = s.ownAddr := rfl
@[simp] theorem rxEnd_peerAddr (k : RxKind) (f : FieldCode) (i : Byte) :
    (rxEnd k f i s).peerAddr = s.peerAddr := rfl
@[simp] theorem rxEnd_bcastAddr (k : RxKind) (f : FieldCode) (i : Byte) :
    (rxEnd k f i s).bcastAddr = s.bcastAddr := rfl
@[simp] theorem rxEnd_ctrlFlags (k : RxKind) (f : FieldCode) (i : Byte) :
    (rxEnd k f i s).ctrlFlags = s.ctrlFlags := rfl
@[simp] theorem rxEnd_filterEn (k : RxKind) (f : FieldCode) (i : Byte) :
    (rxEnd k f i s).filterEn = s.filterEn := rfl
@[simp] theorem rxEnd_errlogEn (k : RxKind) (f : FieldCode) (i : Byte) :
    (rxEnd k f i s).errlogEn = s.errlogEn := rfl
@[simp] theorem rxEnd_wdtcnt (k : RxKind) (f : FieldCode) (i : Byte) :
    (rxEnd k f i s).wdtcnt = s.wdtcnt := rfl
@[simp] theorem rxEnd_fault (k : RxKind) (f : FieldCode) (i : Byte) : (rxEnd k f i s).fault = s.fault := rfl
@[simp] theorem rxEnd_time (k : RxKind) (f : FieldCode) (i : Byte) : (rxEnd k f i s).time = s.time := rfl
@[simp] theorem rxEnd_feed (k : RxKind) (f : FieldCode) (i : Byte) : (rxEnd k f i s).feed = s.feed := rfl
@[simp] theorem rxEnd_opTick (k : RxKind) (f : FieldCode) (i : Byte) :
    (rxEnd k f i s).opTick = s.opTick := rfl
@[simp] theorem rxEnd_events (k : RxKind) (f : FieldCode) (i : Byte) :
    (rxEnd k f i s).events = s.events ++ stamped s.time (rxEndEvents k (resultWord (rxKindNum k) f i) s.errlogEn) := rfl
@[simp] theorem rxEnd_reads (k : RxKind) (f : FieldCode) (i : Byte) : (rxEnd k f i s).reads = s.reads := rfl

/-! ### txEnd -/

@[simp] theorem txEnd_par (k : TxKind) (f : FieldCode) (i : Byte) (ts : Stamp) :
    (txEnd k f i ts s).par = s.par := rfl
@[simp] theorem txEnd_busOut (k : TxKind) (f : FieldCode) (i : Byte) (ts : Stamp) :
    (txEnd k f i ts s).busOut = false := rfl
@[simp] theorem txEnd_phase (k : TxKind) (f : FieldCode) (i : Byte) (ts : Stamp) :
    (txEnd k f i ts s).phase = .idle := rfl
@[simp] theorem txEnd_cnt (k : TxKind) (f : FieldCode) (i : Byte) (ts : Stamp) :
    (txEnd k f i ts s).cnt = 0 := rfl
@[simp] theorem txEnd_elem (k : TxKind) (f : FieldCode) (i : Byte) (ts : Stamp) :
    (txEnd k f i ts s).elem = s.elem := rfl
@[simp] theorem txEnd_nbits (k : TxKind) (f : FieldCode) (i : Byte) (ts : Stamp) :
    (txEnd k f i ts s).nbits = s.nbits := rfl
@[simp] theorem txEnd_didx (k : TxKind) (f : FieldCode) (i : Byte) (ts : Stamp) :
    (txEnd k f i ts s).didx = s.didx := rfl
@[simp] theorem txEnd_shift (k : TxKind) (f : FieldCode) (i : Byte) (ts : Stamp) :
    (txEnd k f i ts s).shift = s.shift := rfl
@[simp] theorem txEnd_parity (k : TxKind) (f : FieldCode) (i : Byte) (ts : Stamp) :
    (txEnd k f i ts s).parity = s.parity := rfl
@[simp] theorem txEnd_hold (k : TxKind) (f : FieldCode) (i : Byte) (ts : Stamp) :
    (txEnd k f i ts s).hold = s.hold := rfl
@[simp] theorem txEnd_per (k : TxKind) (f : FieldCode) (i : Byte) (ts : Stamp) :
    (txEnd k f i ts s).per = s.per := rfl
@[simp] theorem txEnd_meas (k : TxKind) (f : FieldCode) (i : Byte) (ts : Stamp) :
    (txEnd k f i ts s).meas = s.meas := rfl
@[simp] theorem txEnd_acked (k : TxKind) (f : FieldCode) (i : Byte) (ts : Stamp) :
    (txEnd k f i ts s).acked = s.acked := rfl
@[simp] theorem txEnd_forme (k : TxKind) (f : FieldCode) (i : Byte) (ts : Stamp) :
    (txEnd k f i ts s).forme = s.forme := rfl
@[simp] theorem txEnd_frame (k : TxKind) (f : FieldCode) (i : Byte) (ts : Stamp) :
    (txEnd k f i ts s).frame = s.frame := rfl
@[simp] theorem txEnd_txb (k : TxKind) (f : FieldCode) (i : Byte) (ts : Stamp) :
    (txEnd k f i ts s).txb = s.txb := rfl
@[simp] theorem txEnd_txPending (k : TxKind) (f : FieldCode) (i : Byte) (ts : Stamp) :
    (txEnd k f i ts s).txPending = s.txPending := rfl
@[simp] theorem txEnd_respActive (k : TxKind) (f : FieldCode) (i : Byte) (ts : Stamp) :
    (txEnd k f i ts s).respActive = false := rfl
@[simp] theorem txEnd_registered (k : TxKind) (f : FieldCode) (i : Byte) (ts : Stamp) :
    (txEnd k f i ts s).registered = (s.respActive || s.registered) := rfl
@[simp] theorem txEnd_regTs (k : TxKind) (f : FieldCode) (i : Byte) (ts : Stamp) :
    (txEnd k f i ts s).regTs = if s.respActive then ts else s.regTs := rfl
@[simp] theorem txEnd_txResult (k : TxKind) (f : FieldCode) (i : Byte) (ts : Stamp) :
    (txEnd k f i ts s).txResult = resultWord (txKindNum k) f i := rfl
@[simp] theorem txEnd_rxResult (k : TxKind) (f : FieldCode) (i : Byte) (ts : Stamp) :
    (txEnd k f i ts s).rxResult = s.rxResult := rfl
@[simp] theorem txEnd_ownAddr (k : TxKind) (f : FieldCode) (i : Byte) (ts : Stamp) :
    (txEnd k f i ts s).ownAddr = s.ownAddr := rfl
@[simp] theorem txEnd_peerAddr (k : TxKind) (f : FieldCode) (i : Byte) (ts : Stamp) :
    (txEnd k f i ts s).peerAddr = s.peerAddr := rfl
@[simp] theorem txEnd_bcastAddr (k : TxKind) (f : FieldCode) (i : Byte) (ts : Stamp) :
    (txEnd k f i ts s).bcastAddr = s.bcastAddr := rfl
@[simp] theorem txEnd_ctrlFlags (k : TxKind) (f : FieldCode) (i : Byte) (ts : Stamp) :
    (txEnd k f i ts s).ctrlFlags = s.ctrlFlags := rfl
@[simp] theorem txEnd_filterEn (k : TxKind) (f : FieldCode) (i : Byte) (ts : Stamp) :
    (txEnd k f i ts s).filterEn = s.filterEn := rfl
@[simp] theorem txEnd_errlogEn (k : TxKind) (f : FieldCode) (i : Byte) (ts : Stamp) :
    (txEnd k f i ts s).errlogEn = s.errlogEn := rfl
@[simp] theorem txEnd_wdtcnt (k : TxKind) (f : FieldCode) (i : Byte) (ts : Stamp) :
    (txEnd k f i ts s).wdtcnt = s.wdtcnt := rfl
@[simp] theorem txEnd_fault (k : TxKind) (f : FieldCode) (i : Byte) (ts : Stamp) :
    (txEnd k f i ts s).fault = s.fault := rfl
@[simp] theorem txEnd_time (k : TxKind) (f : FieldCode) (i : Byte) (ts : Stamp) :
    (txEnd k f i ts s).time = s.time := rfl
@[simp] theorem txEnd_feed (k : TxKind) (f : FieldCode) (i : Byte) (ts : Stamp) :
    (txEnd k f i ts s).feed = s.feed := rfl
@[simp] theorem txEnd_opTick (k : TxKind) (f : FieldCode) (i : Byte) (ts : Stamp) :
    (txEnd k f i ts s).opTick = s.opTick := rfl
@[simp] theorem txEnd_events (k : TxKind) (f : FieldCode) (i : Byte) (ts : Stamp) :
    (txEnd k f i ts s).events = s.events ++ stamped s.time (txEndEvents k (resultWord (txKindNum k) f i) s.errlogEn s.frame) := rfl
@[simp] theorem txEnd_reads (k : TxKind) (f : FieldCode) (i : Byte) (ts : Stamp) :
    (txEnd k f i ts s).reads = s.reads := rfl

/-! ### initVal -/

@[simp] theorem initVal_par (f : FieldCode) : (initVal f s).par = s.par := rfl
@[simp] theorem initVal_busOut (f : FieldCode) : (initVal f s).busOut = s.busOut := rfl
@[simp] theorem initVal_phase (f : FieldCode) : (initVal f s).phase = s.phase := rfl
@[simp] theorem initVal_cnt (f : FieldCode) : (initVal f s).cnt = s.cnt := rfl
@[simp] theorem initVal_elem (f : FieldCode) : (initVal f s).elem = s.elem := rfl
@[simp] theorem initVal_nbits (f : FieldCode) : (initVal f s).nbits = BitVec.ofNat 4 (fieldWidth f) := rfl
@[simp] theorem initVal_didx (f : FieldCode) : (initVal f s).didx = s.didx := rfl
@[simp] theorem initVal_shift (f : FieldCode) : (initVal f s).shift = 0 := rfl
@[simp] theorem initVal_parity (f : FieldCode) : (initVal f s).parity = false := rfl
@[simp] theorem initVal_hold (f : FieldCode) : (initVal f s).hold = s.hold := rfl
@[simp] theorem initVal_per (f : FieldCode) : (initVal f s).per = s.per := rfl
@[simp] theorem initVal_meas (f : FieldCode) : (initVal f s).meas = s.meas := rfl
@[simp] theorem initVal_acked (f : FieldCode) : (initVal f s).acked = s.acked := rfl
@[simp] theorem initVal_forme (f : FieldCode) : (initVal f s).forme = s.forme := rfl
@[simp] theorem initVal_frame (f : FieldCode) : (initVal f s).frame = s.frame := rfl
@[simp] theorem initVal_txb (f : FieldCode) : (initVal f s).txb = s.txb := rfl
@[simp] theorem initVal_txPending (f : FieldCode) : (initVal f s).txPending = s.txPending := rfl
@[simp] theorem initVal_respActive (f : FieldCode) : (initVal f s).respActive = s.respActive := rfl
@[simp] theorem initVal_registered (f : FieldCode) : (initVal f s).registered = s.registered := rfl
@[simp] theorem initVal_regTs (f : FieldCode) : (initVal f s).regTs = s.regTs := rfl
@[simp] theorem initVal_txResult (f : FieldCode) : (initVal f s).txResult = s.txResult := rfl
@[simp] theorem initVal_rxResult (f : FieldCode) : (initVal f s).rxResult = s.rxResult := rfl
@[simp] theorem initVal_ownAddr (f : FieldCode) : (initVal f s).ownAddr = s.ownAddr := rfl
@[simp] theorem initVal_peerAddr (f : FieldCode) : (initVal f s).peerAddr = s.peerAddr := rfl
@[simp] theorem initVal_bcastAddr (f : FieldCode) : (initVal f s).bcastAddr = s.bcastAddr := rfl
@[simp] theorem initVal_ctrlFlags (f : FieldCode) : (initVal f s).ctrlFlags = s.ctrlFlags := rfl
@[simp] theorem initVal_filterEn (f : FieldCode) : (initVal f s).filterEn = s.filterEn := rfl
@[simp] theorem initVal_errlogEn (f : FieldCode) : (initVal f s).errlogEn = s.errlogEn := rfl
@[simp] theorem initVal_wdtcnt (f : FieldCode) : (initVal f s).wdtcnt = s.wdtcnt := rfl
@[simp] theorem initVal_fault (f : FieldCode) : (initVal f s).fault = s.fault := rfl
@[simp] theorem initVal_time (f : FieldCode) : (initVal f s).time = s.time := rfl
@[simp] theorem initVal_feed (f : FieldCode) : (initVal f s).feed = s.feed := rfl
@[simp] theorem initVal_opTick (f : FieldCode) : (initVal f s).opTick = s.opTick := rfl
@[simp] theorem initVal_events (f : FieldCode) : (initVal f s).events = s.events := rfl
@[simp] theorem initVal_reads (f : FieldCode) : (initVal f s).reads = s.reads := rfl

/-! ### emitBit -/

@[simp] theorem emitBit_par (b : Bool) : (emitBit b s).par = s.par := rfl
@[simp] theorem emitBit_busOut (b : Bool) : (emitBit b s).busOut = true := rfl
@[simp] theorem emitBit_phase (b : Bool) : (emitBit b s).phase = .txBit := rfl
@[simp] theorem emitBit_cnt (b : Bool) : (emitBit b s).cnt = 0 := rfl
@[simp] theorem emitBit_elem (b : Bool) : (emitBit b s).elem = s.elem := rfl
@[simp] theorem emitBit_nbits (b : Bool) : (emitBit b s).nbits = s.nbits := rfl
@[simp] theorem emitBit_didx (b : Bool) : (emitBit b s).didx = s.didx := rfl
@[simp] theorem emitBit_shift (b : Bool) : (emitBit b s).shift = s.shift := rfl
@[simp] theorem emitBit_parity (b : Bool) : (emitBit b s).parity = s.parity := rfl
@[simp] theorem emitBit_hold (b : Bool) :
    (emitBit b s).hold = BitVec.ofNat 6 (if b then s.par.t1High else s.par.t0High) := rfl
@[simp] theorem emitBit_per (b : Bool) : (emitBit b s).per = BitVec.ofNat 6 s.par.tBit := rfl
@[simp] theorem emitBit_meas (b : Bool) : (emitBit b s).meas = s.meas := rfl
@[simp] theorem emitBit_acked (b : Bool) : (emitBit b s).acked = s.acked := rfl
@[simp] theorem emitBit_forme (b : Bool) : (emitBit b s).forme = s.forme := rfl
@[simp] theorem emitBit_frame (b : Bool) : (emitBit b s).frame = s.frame := rfl
@[simp] theorem emitBit_txb (b : Bool) : (emitBit b s).txb = s.txb := rfl
@[simp] theorem emitBit_txPending (b : Bool) : (emitBit b s).txPending = s.txPending := rfl
@[simp] theorem emitBit_respActive (b : Bool) : (emitBit b s).respActive = s.respActive := rfl
@[simp] theorem emitBit_registered (b : Bool) : (emitBit b s).registered = s.registered := rfl
@[simp] theorem emitBit_regTs (b : Bool) : (emitBit b s).regTs = s.regTs := rfl
@[simp] theorem emitBit_txResult (b : Bool) : (emitBit b s).txResult = s.txResult := rfl
@[simp] theorem emitBit_rxResult (b : Bool) : (emitBit b s).rxResult = s.rxResult := rfl
@[simp] theorem emitBit_ownAddr (b : Bool) : (emitBit b s).ownAddr = s.ownAddr := rfl
@[simp] theorem emitBit_peerAddr (b : Bool) : (emitBit b s).peerAddr = s.peerAddr := rfl
@[simp] theorem emitBit_bcastAddr (b : Bool) : (emitBit b s).bcastAddr = s.bcastAddr := rfl
@[simp] theorem emitBit_ctrlFlags (b : Bool) : (emitBit b s).ctrlFlags = s.ctrlFlags := rfl
@[simp] theorem emitBit_filterEn (b : Bool) : (emitBit b s).filterEn = s.filterEn := rfl
@[simp] theorem emitBit_errlogEn (b : Bool) : (emitBit b s).errlogEn = s.errlogEn := rfl
@[simp] theorem emitBit_wdtcnt (b : Bool) : (emitBit b s).wdtcnt = s.wdtcnt := rfl
@[simp] theorem emitBit_fault (b : Bool) : (emitBit b s).fault = s.fault := rfl
@[simp] theorem emitBit_time (b : Bool) : (emitBit b s).time = s.time := rfl
@[simp] theorem emitBit_feed (b : Bool) : (emitBit b s).feed = s.feed := rfl
@[simp] theorem emitBit_opTick (b : Bool) : (emitBit b s).opTick = s.opTick := rfl
@[simp] theorem emitBit_events (b : Bool) : (emitBit b s).events = s.events := rfl
@[simp] theorem emitBit_reads (b : Bool) : (emitBit b s).reads = s.reads := rfl

/-! ### sendNextBit -/

@[simp] theorem sendNextBit_par : (sendNextBit s).par = s.par := rfl
@[simp] theorem sendNextBit_busOut : (sendNextBit s).busOut = true := rfl
@[simp] theorem sendNextBit_phase : (sendNextBit s).phase = .txBit := rfl
@[simp] theorem sendNextBit_cnt : (sendNextBit s).cnt = 0 := rfl
@[simp] theorem sendNextBit_elem : (sendNextBit s).elem = s.elem := rfl
@[simp] theorem sendNextBit_nbits : (sendNextBit s).nbits = s.nbits - 1 := rfl
@[simp] theorem sendNextBit_didx : (sendNextBit s).didx = s.didx := rfl
@[simp] theorem sendNextBit_shift : (sendNextBit s).shift = s.shift := rfl
@[simp] theorem sendNextBit_parity :
    (sendNextBit s).parity = (s.parity ^^ s.shift.getLsbD (s.nbits.toNat - 1)) := rfl
@[simp] theorem sendNextBit_hold :
    (sendNextBit s).hold = BitVec.ofNat 6 (if s.shift.getLsbD (s.nbits.toNat - 1) then s.par.t1High else s.par.t0High) := rfl
@[simp] theorem sendNextBit_per : (sendNextBit s).per = BitVec.ofNat 6 s.par.tBit := rfl
@[simp] theorem sendNextBit_meas : (sendNextBit s).meas = s.meas := rfl
@[simp] theorem sendNextBit_acked : (sendNextBit s).acked = s.acked := rfl
@[simp] theorem sendNextBit_forme : (sendNextBit s).forme = s.forme := rfl
@[simp] theorem sendNextBit_frame : (sendNextBit s).frame = s.frame := rfl
@[simp] theorem sendNextBit_txb : (sendNextBit s).txb = s.txb := rfl
@[simp] theorem sendNextBit_txPending : (sendNextBit s).txPending = s.txPending := rfl
@[simp] theorem sendNextBit_respActive : (sendNextBit s).respActive = s.respActive := rfl
@[simp] theorem sendNextBit_registered : (sendNextBit s).registered = s.registered := rfl
@[simp] theorem sendNextBit_regTs : (sendNextBit s).regTs = s.regTs := rfl
@[simp] theorem sendNextBit_txResult : (sendNextBit s).txResult = s.txResult := rfl
@[simp] theorem sendNextBit_rxResult : (sendNextBit s).rxResult = s.rxResult := rfl
@[simp] theorem sendNextBit_ownAddr : (sendNextBit s).ownAddr = s.ownAddr := rfl
@[simp] theorem sendNextBit_peerAddr : (sendNextBit s).peerAddr = s.peerAddr := rfl
@[simp] theorem sendNextBit_bcastAddr : (sendNextBit s).bcastAddr = s.bcastAddr := rfl
@[simp] theorem sendNextBit_ctrlFlags : (sendNextBit s).ctrlFlags = s.ctrlFlags := rfl
@[simp] theorem sendNextBit_filterEn : (sendNextBit s).filterEn = s.filterEn := rfl
@[simp] theorem sendNextBit_errlogEn : (sendNextBit s).errlogEn = s.errlogEn := rfl
@[simp] theorem sendNextBit_wdtcnt : (sendNextBit s).wdtcnt = s.wdtcnt := rfl
@[simp] theorem sendNextBit_fault : (sendNextBit s).fault = s.fault := rfl
@[simp] theorem sendNextBit_time : (sendNextBit s).time = s.time := rfl
@[simp] theorem sendNextBit_feed : (sendNextBit s).feed = s.feed := rfl
@[simp] theorem sendNextBit_opTick : (sendNextBit s).opTick = s.opTick := rfl
@[simp] theorem sendNextBit_events : (sendNextBit s).events = s.events := rfl
@[simp] theorem sendNextBit_reads : (sendNextBit s).reads = s.reads := rfl

/-! ### encodeStart -/

@[simp] theorem encodeStart_par : (encodeStart s).par = s.par := rfl
@[simp] theorem encodeStart_busOut : (encodeStart s).busOut = true := rfl
@[simp] theorem encodeStart_phase : (encodeStart s).phase = .txBit := rfl
@[simp] theorem encodeStart_cnt : (encodeStart s).cnt = 0 := rfl
@[simp] theorem encodeStart_elem : (encodeStart s).elem = .el .start .val := rfl
@[simp] theorem encodeStart_nbits : (encodeStart s).nbits = 0 := rfl
@[simp] theorem encodeStart_didx : (encodeStart s).didx = s.didx := rfl
@[simp] theorem encodeStart_shift : (encodeStart s).shift = s.shift := rfl
@[simp] theorem encodeStart_parity : (encodeStart s).parity = s.parity := rfl
@[simp] theorem encodeStart_hold : (encodeStart s).hold = BitVec.ofNat 6 s.par.tStartHigh := rfl
@[simp] theorem encodeStart_per : (encodeStart s).per = BitVec.ofNat 6 s.par.tStart := rfl
@[simp] theorem encodeStart_meas : (encodeStart s).meas = s.meas := rfl
@[simp] theorem encodeStart_acked : (encodeStart s).acked = s.acked := rfl
@[simp] theorem encodeStart_forme : (encodeStart s).forme = s.forme := rfl
@[simp] theorem encodeStart_frame : (encodeStart s).frame = s.frame := rfl
@[simp] theorem encodeStart_txb : (encodeStart s).txb = s.txb := rfl
@[simp] theorem encodeStart_txPending : (encodeStart s).txPending = s.txPending := rfl
@[simp] theorem encodeStart_respActive : (encodeStart s).respActive = s.respActive := rfl
@[simp] theorem encodeStart_registered : (encodeStart s).registered = s.registered := rfl
@[simp] theorem encodeStart_regTs : (encodeStart s).regTs = s.regTs := rfl
@[simp] theorem encodeStart_txResult : (encodeStart s).txResult = s.txResult := rfl
@[simp] theorem encodeStart_rxResult : (encodeStart s).rxResult = s.rxResult := rfl
@[simp] theorem encodeStart_ownAddr : (encodeStart s).ownAddr = s.ownAddr := rfl
@[simp] theorem encodeStart_peerAddr : (encodeStart s).peerAddr = s.peerAddr := rfl
@[simp] theorem encodeStart_bcastAddr : (encodeStart s).bcastAddr = s.bcastAddr := rfl
@[simp] theorem encodeStart_ctrlFlags : (encodeStart s).ctrlFlags = s.ctrlFlags := rfl
@[simp] theorem encodeStart_filterEn : (encodeStart s).filterEn = s.filterEn := rfl
@[simp] theorem encodeStart_errlogEn : (encodeStart s).errlogEn = s.errlogEn := rfl
@[simp] theorem encodeStart_wdtcnt : (encodeStart s).wdtcnt = s.wdtcnt := rfl
@[simp] theorem encodeStart_fault : (encodeStart s).fault = s.fault := rfl
@[simp] theorem encodeStart_time : (encodeStart s).time = s.time := rfl
@[simp] theorem encodeStart_feed : (encodeStart s).feed = s.feed := rfl
@[simp] theorem encodeStart_opTick : (encodeStart s).opTick = s.opTick := rfl
@[simp] theorem encodeStart_events : (encodeStart s).events = s.events := rfl
@[simp] theorem encodeStart_reads : (encodeStart s).reads = s.reads := rfl

/-! ### accumulateBit -/

@[simp] theorem accumulateBit_par (b : Bool) : (accumulateBit b s).par = s.par := rfl
@[simp] theorem accumulateBit_busOut (b : Bool) : (accumulateBit b s).busOut = s.busOut := rfl
@[simp] theorem accumulateBit_phase (b : Bool) : (accumulateBit b s).phase = s.phase := rfl
@[simp] theorem accumulateBit_cnt (b : Bool) : (accumulateBit b s).cnt = s.cnt := rfl
@[simp] theorem accumulateBit_elem (b : Bool) : (accumulateBit b s).elem = s.elem := rfl
@[simp] theorem accumulateBit_nbits (b : Bool) : (accumulateBit b s).nbits = s.nbits - 1 := rfl
@[simp] theorem accumulateBit_didx (b : Bool) : (accumulateBit b s).didx = s.didx := rfl
@[simp] theorem accumulateBit_shift (b : Bool) :
    (accumulateBit b s).shift = (s.shift <<< 1 ||| (BitVec.ofBool b).setWidth 12) := rfl
@[simp] theorem accumulateBit_parity (b : Bool) : (accumulateBit b s).parity = (s.parity ^^ b) := rfl
@[simp] theorem accumulateBit_hold (b : Bool) : (accumulateBit b s).hold = s.hold := rfl
@[simp] theorem accumulateBit_per (b : Bool) : (accumulateBit b s).per = s.per := rfl
@[simp] theorem accumulateBit_meas (b : Bool) : (accumulateBit b s).meas = s.meas := rfl
@[simp] theorem accumulateBit_acked (b : Bool) : (accumulateBit b s).acked = s.acked := rfl
@[simp] theorem accumulateBit_forme (b : Bool) : (accumulateBit b s).forme = s.forme := rfl
@[simp] theorem accumulateBit_frame (b : Bool) : (accumulateBit b s).frame = s.frame := rfl
@[simp] theorem accumulateBit_txb (b : Bool) : (accumulateBit b s).txb = s.txb := rfl
@[simp] theorem accumulateBit_txPending (b : Bool) : (accumulateBit b s).txPending = s.txPending := rfl
@[simp] theorem accumulateBit_respActive (b : Bool) : (accumulateBit b s).respActive = s.respActive := rfl
@[simp] theorem accumulateBit_registered (b : Bool) : (accumulateBit b s).registered = s.registered := rfl
@[simp] theorem accumulateBit_regTs (b : Bool) : (accumulateBit b s).regTs = s.regTs := rfl
@[simp] theorem accumulateBit_txResult (b : Bool) : (accumulateBit b s).txResult = s.txResult := rfl
@[simp] theorem accumulateBit_rxResult (b : Bool) : (accumulateBit b s).rxResult = s.rxResult := rfl
@[simp] theorem accumulateBit_ownAddr (b : Bool) : (accumulateBit b s).ownAddr = s.ownAddr := rfl
@[simp] theorem accumulateBit_peerAddr (b : Bool) : (accumulateBit b s).peerAddr = s.peerAddr := rfl
@[simp] theorem accumulateBit_bcastAddr (b : Bool) : (accumulateBit b s).bcastAddr = s.bcastAddr := rfl
@[simp] theorem accumulateBit_ctrlFlags (b : Bool) : (accumulateBit b s).ctrlFlags = s.ctrlFlags := rfl
@[simp] theorem accumulateBit_filterEn (b : Bool) : (accumulateBit b s).filterEn = s.filterEn := rfl
@[simp] theorem accumulateBit_errlogEn (b : Bool) : (accumulateBit b s).errlogEn = s.errlogEn := rfl
@[simp] theorem accumulateBit_wdtcnt (b : Bool) : (accumulateBit b s).wdtcnt = s.wdtcnt := rfl
@[simp] theorem accumulateBit_fault (b : Bool) : (accumulateBit b s).fault = s.fault := rfl
@[simp] theorem accumulateBit_time (b : Bool) : (accumulateBit b s).time = s.time := rfl
@[simp] theorem accumulateBit_feed (b : Bool) : (accumulateBit b s).feed = s.feed := rfl
@[simp] theorem accumulateBit_opTick (b : Bool) : (accumulateBit b s).opTick = s.opTick := rfl
@[simp] theorem accumulateBit_events (b : Bool) : (accumulateBit b s).events = s.events := rfl
@[simp] theorem accumulateBit_reads (b : Bool) : (accumulateBit b s).reads = s.reads := rfl

/-! ### openSlot -/

@[simp] theorem openSlot_par : (openSlot s).par = s.par := rfl
@[simp] theorem openSlot_busOut : (openSlot s).busOut = true := rfl
@[simp] theorem openSlot_phase : (openSlot s).phase = .txAck := rfl
@[simp] theorem openSlot_cnt : (openSlot s).cnt = 0 := rfl
@[simp] theorem openSlot_elem : (openSlot s).elem = s.elem := rfl
@[simp] theorem openSlot_nbits : (openSlot s).nbits = s.nbits := rfl
@[simp] theorem openSlot_didx : (openSlot s).didx = s.didx := rfl
@[simp] theorem openSlot_shift : (openSlot s).shift = s.shift := rfl
@[simp] theorem openSlot_parity : (openSlot s).parity = s.parity := rfl
@[simp] theorem openSlot_hold : (openSlot s).hold = s.hold := rfl
@[simp] theorem openSlot_per : (openSlot s).per = s.per := rfl
@[simp] theorem openSlot_meas : (openSlot s).meas = true := rfl
@[simp] theorem openSlot_acked : (openSlot s).acked = false := rfl
@[simp] theorem openSlot_forme : (openSlot s).forme = s.forme := rfl
@[simp] theorem openSlot_frame : (openSlot s).frame = s.frame := rfl
@[simp] theorem openSlot_txb : (openSlot s).txb = s.txb := rfl
@[simp] theorem openSlot_txPending : (openSlot s).txPending = s.txPending := rfl
@[simp] theorem openSlot_respActive : (openSlot s).respActive = s.respActive := rfl
@[simp] theorem openSlot_registered : (openSlot s).registered = s.registered := rfl
@[simp] theorem openSlot_regTs : (openSlot s).regTs = s.regTs := rfl
@[simp] theorem openSlot_txResult : (openSlot s).txResult = s.txResult := rfl
@[simp] theorem openSlot_rxResult : (openSlot s).rxResult = s.rxResult := rfl
@[simp] theorem openSlot_ownAddr : (openSlot s).ownAddr = s.ownAddr := rfl
@[simp] theorem openSlot_peerAddr : (openSlot s).peerAddr = s.peerAddr := rfl
@[simp] theorem openSlot_bcastAddr : (openSlot s).bcastAddr = s.bcastAddr := rfl
@[simp] theorem openSlot_ctrlFlags : (openSlot s).ctrlFlags = s.ctrlFlags := rfl
@[simp] theorem openSlot_filterEn : (openSlot s).filterEn = s.filterEn := rfl
@[simp] theorem openSlot_errlogEn : (openSlot s).errlogEn = s.errlogEn := rfl
@[simp] theorem openSlot_wdtcnt : (openSlot s).wdtcnt = s.wdtcnt := rfl
@[simp] theorem openSlot_fault : (openSlot s).fault = s.fault := rfl
@[simp] theorem openSlot_time : (openSlot s).time = s.time := rfl
@[simp] theorem openSlot_feed : (openSlot s).feed = s.feed := rfl
@[simp] theorem openSlot_opTick : (openSlot s).opTick = s.opTick := rfl
@[simp] theorem openSlot_events : (openSlot s).events = s.events := rfl
@[simp] theorem openSlot_reads : (openSlot s).reads = s.reads := rfl

/-! ### register -/

@[simp] theorem register_par (ts : Stamp) : (register ts s).par = s.par := rfl
@[simp] theorem register_busOut (ts : Stamp) : (register ts s).busOut = s.busOut := rfl
@[simp] theorem register_phase (ts : Stamp) : (register ts s).phase = s.phase := rfl
@[simp] theorem register_cnt (ts : Stamp) : (register ts s).cnt = s.cnt := rfl
@[simp] theorem register_elem (ts : Stamp) : (register ts s).elem = s.elem := rfl
@[simp] theorem register_nbits (ts : Stamp) : (register ts s).nbits = s.nbits := rfl
@[simp] theorem register_didx (ts : Stamp) : (register ts s).didx = s.didx := rfl
@[simp] theorem register_shift (ts : Stamp) : (register ts s).shift = s.shift := rfl
@[simp] theorem register_parity (ts : Stamp) : (register ts s).parity = s.parity := rfl
@[simp] theorem register_hold (ts : Stamp) : (register ts s).hold = s.hold := rfl
@[simp] theorem register_per (ts : Stamp) : (register ts s).per = s.per := rfl
@[simp] theorem register_meas (ts : Stamp) : (register ts s).meas = s.meas := rfl
@[simp] theorem register_acked (ts : Stamp) : (register ts s).acked = s.acked := rfl
@[simp] theorem register_forme (ts : Stamp) : (register ts s).forme = s.forme := rfl
@[simp] theorem register_frame (ts : Stamp) : (register ts s).frame = s.frame := rfl
@[simp] theorem register_txb (ts : Stamp) : (register ts s).txb = s.txb := rfl
@[simp] theorem register_txPending (ts : Stamp) : (register ts s).txPending = s.txPending := rfl
@[simp] theorem register_respActive (ts : Stamp) : (register ts s).respActive = s.respActive := rfl
@[simp] theorem register_registered (ts : Stamp) :
    (register ts s).registered = (s.forme || s.registered) := rfl
@[simp] theorem register_regTs (ts : Stamp) : (register ts s).regTs = if s.forme then ts else s.regTs := rfl
@[simp] theorem register_txResult (ts : Stamp) : (register ts s).txResult = s.txResult := rfl
@[simp] theorem register_rxResult (ts : Stamp) : (register ts s).rxResult = s.rxResult := rfl
@[simp] theorem register_ownAddr (ts : Stamp) : (register ts s).ownAddr = s.ownAddr := rfl
@[simp] theorem register_peerAddr (ts : Stamp) : (register ts s).peerAddr = s.peerAddr := rfl
@[simp] theorem register_bcastAddr (ts : Stamp) : (register ts s).bcastAddr = s.bcastAddr := rfl
@[simp] theorem register_ctrlFlags (ts : Stamp) : (register ts s).ctrlFlags = s.ctrlFlags := rfl
@[simp] theorem register_filterEn (ts : Stamp) : (register ts s).filterEn = s.filterEn := rfl
@[simp] theorem register_errlogEn (ts : Stamp) : (register ts s).errlogEn = s.errlogEn := rfl
@[simp] theorem register_wdtcnt (ts : Stamp) : (register ts s).wdtcnt = s.wdtcnt := rfl
@[simp] theorem register_fault (ts : Stamp) : (register ts s).fault = s.fault := rfl
@[simp] theorem register_time (ts : Stamp) : (register ts s).time = s.time := rfl
@[simp] theorem register_feed (ts : Stamp) : (register ts s).feed = s.feed := rfl
@[simp] theorem register_opTick (ts : Stamp) : (register ts s).opTick = s.opTick := rfl
@[simp] theorem register_events (ts : Stamp) : (register ts s).events = s.events := rfl
@[simp] theorem register_reads (ts : Stamp) : (register ts s).reads = s.reads := rfl

/-! ### respond -/

@[simp] theorem respond_par (token : Byte) : (respond token s).par = s.par := rfl
@[simp] theorem respond_busOut (token : Byte) : (respond token s).busOut = false := rfl
@[simp] theorem respond_phase (token : Byte) : (respond token s).phase = .arb := rfl
@[simp] theorem respond_cnt (token : Byte) : (respond token s).cnt = 0 := rfl
@[simp] theorem respond_elem (token : Byte) : (respond token s).elem = s.elem := rfl
@[simp] theorem respond_nbits (token : Byte) : (respond token s).nbits = s.nbits := rfl
@[simp] theorem respond_didx (token : Byte) : (respond token s).didx = 0 := rfl
@[simp] theorem respond_shift (token : Byte) : (respond token s).shift = s.shift := rfl
@[simp] theorem respond_parity (token : Byte) : (respond token s).parity = s.parity := rfl
@[simp] theorem respond_hold (token : Byte) : (respond token s).hold = s.hold := rfl
@[simp] theorem respond_per (token : Byte) : (respond token s).per = s.per := rfl
@[simp] theorem respond_meas (token : Byte) : (respond token s).meas = s.meas := rfl
@[simp] theorem respond_acked (token : Byte) : (respond token s).acked = s.acked := rfl
@[simp] theorem respond_forme (token : Byte) : (respond token s).forme = s.forme := rfl
@[simp] theorem respond_frame (token : Byte) : (respond token s).frame = replyFrame token s := rfl
@[simp] theorem respond_txb (token : Byte) : (respond token s).txb = s.txb := rfl
@[simp] theorem respond_txPending (token : Byte) : (respond token s).txPending = s.txPending := rfl
@[simp] theorem respond_respActive (token : Byte) : (respond token s).respActive = true := rfl
@[simp] theorem respond_registered (token : Byte) : (respond token s).registered = s.registered := rfl
@[simp] theorem respond_regTs (token : Byte) : (respond token s).regTs = s.regTs := rfl
@[simp] theorem respond_txResult (token : Byte) : (respond token s).txResult = 0 := rfl
@[simp] theorem respond_rxResult (token : Byte) :
    (respond token s).rxResult = resultWord (rxKindNum .responded) .none 0 := rfl
@[simp] theorem respond_ownAddr (token : Byte) : (respond token s).ownAddr = s.ownAddr := rfl
@[simp] theorem respond_peerAddr (token : Byte) : (respond token s).peerAddr = s.peerAddr := rfl
@[simp] theorem respond_bcastAddr (token : Byte) : (respond token s).bcastAddr = s.bcastAddr := rfl
@[simp] theorem respond_ctrlFlags (token : Byte) : (respond token s).ctrlFlags = s.ctrlFlags := rfl
@[simp] theorem respond_filterEn (token : Byte) : (respond token s).filterEn = s.filterEn := rfl
@[simp] theorem respond_errlogEn (token : Byte) : (respond token s).errlogEn = s.errlogEn := rfl
@[simp] theorem respond_wdtcnt (token : Byte) : (respond token s).wdtcnt = s.wdtcnt := rfl
@[simp] theorem respond_fault (token : Byte) : (respond token s).fault = s.fault := rfl
@[simp] theorem respond_time (token : Byte) : (respond token s).time = s.time := rfl
@[simp] theorem respond_feed (token : Byte) : (respond token s).feed = s.feed := rfl
@[simp] theorem respond_opTick (token : Byte) : (respond token s).opTick = s.opTick := rfl
@[simp] theorem respond_events (token : Byte) :
    (respond token s).events = s.events ++ stamped s.time [.rxDone (resultWord (rxKindNum .responded) .none 0)] := rfl
@[simp] theorem respond_reads (token : Byte) : (respond token s).reads = s.reads := rfl

/-! ### acceptStart -/

@[simp] theorem acceptStart_par : (acceptStart s).par = s.par := rfl
@[simp] theorem acceptStart_busOut : (acceptStart s).busOut = s.busOut := rfl
@[simp] theorem acceptStart_phase : (acceptStart s).phase = .rxWaithigh := rfl
@[simp] theorem acceptStart_cnt : (acceptStart s).cnt = 0 := rfl
@[simp] theorem acceptStart_elem : (acceptStart s).elem = .el .mode .val := rfl
@[simp] theorem acceptStart_nbits : (acceptStart s).nbits = 1 := rfl
@[simp] theorem acceptStart_didx : (acceptStart s).didx = 0 := rfl
@[simp] theorem acceptStart_shift : (acceptStart s).shift = 0 := rfl
@[simp] theorem acceptStart_parity : (acceptStart s).parity = false := rfl
@[simp] theorem acceptStart_hold : (acceptStart s).hold = s.hold := rfl
@[simp] theorem acceptStart_per : (acceptStart s).per = s.per := rfl
@[simp] theorem acceptStart_meas : (acceptStart s).meas = s.meas := rfl
@[simp] theorem acceptStart_acked : (acceptStart s).acked = s.acked := rfl
@[simp] theorem acceptStart_forme : (acceptStart s).forme = false := rfl
@[simp] theorem acceptStart_frame : (acceptStart s).frame = .zero := rfl
@[simp] theorem acceptStart_txb : (acceptStart s).txb = s.txb := rfl
@[simp] theorem acceptStart_txPending : (acceptStart s).txPending = s.txPending := rfl
@[simp] theorem acceptStart_respActive : (acceptStart s).respActive = s.respActive := rfl
@[simp] theorem acceptStart_registered : (acceptStart s).registered = s.registered := rfl
@[simp] theorem acceptStart_regTs : (acceptStart s).regTs = s.regTs := rfl
@[simp] theorem acceptStart_txResult : (acceptStart s).txResult = s.txResult := rfl
@[simp] theorem acceptStart_rxResult : (acceptStart s).rxResult = s.rxResult := rfl
@[simp] theorem acceptStart_ownAddr : (acceptStart s).ownAddr = s.ownAddr := rfl
@[simp] theorem acceptStart_peerAddr : (acceptStart s).peerAddr = s.peerAddr := rfl
@[simp] theorem acceptStart_bcastAddr : (acceptStart s).bcastAddr = s.bcastAddr := rfl
@[simp] theorem acceptStart_ctrlFlags : (acceptStart s).ctrlFlags = s.ctrlFlags := rfl
@[simp] theorem acceptStart_filterEn : (acceptStart s).filterEn = s.filterEn := rfl
@[simp] theorem acceptStart_errlogEn : (acceptStart s).errlogEn = s.errlogEn := rfl
@[simp] theorem acceptStart_wdtcnt : (acceptStart s).wdtcnt = s.wdtcnt := rfl
@[simp] theorem acceptStart_fault : (acceptStart s).fault = s.fault := rfl
@[simp] theorem acceptStart_time : (acceptStart s).time = s.time := rfl
@[simp] theorem acceptStart_feed : (acceptStart s).feed = s.feed := rfl
@[simp] theorem acceptStart_opTick : (acceptStart s).opTick = s.opTick := rfl
@[simp] theorem acceptStart_events : (acceptStart s).events = s.events := rfl
@[simp] theorem acceptStart_reads : (acceptStart s).reads = s.reads := rfl

/-! ### watchdog -/

@[simp] theorem watchdog_par : (watchdog s).par = s.par := rfl
@[simp] theorem watchdog_busOut : (watchdog s).busOut = s.busOut := rfl
@[simp] theorem watchdog_phase : (watchdog s).phase = s.phase := rfl
@[simp] theorem watchdog_cnt : (watchdog s).cnt = s.cnt := rfl
@[simp] theorem watchdog_elem : (watchdog s).elem = s.elem := rfl
@[simp] theorem watchdog_nbits : (watchdog s).nbits = s.nbits := rfl
@[simp] theorem watchdog_didx : (watchdog s).didx = s.didx := rfl
@[simp] theorem watchdog_shift : (watchdog s).shift = s.shift := rfl
@[simp] theorem watchdog_parity : (watchdog s).parity = s.parity := rfl
@[simp] theorem watchdog_hold : (watchdog s).hold = s.hold := rfl
@[simp] theorem watchdog_per : (watchdog s).per = s.per := rfl
@[simp] theorem watchdog_meas : (watchdog s).meas = s.meas := rfl
@[simp] theorem watchdog_acked : (watchdog s).acked = s.acked := rfl
@[simp] theorem watchdog_forme : (watchdog s).forme = s.forme := rfl
@[simp] theorem watchdog_frame : (watchdog s).frame = s.frame := rfl
@[simp] theorem watchdog_txb : (watchdog s).txb = s.txb := rfl
@[simp] theorem watchdog_txPending : (watchdog s).txPending = s.txPending := rfl
@[simp] theorem watchdog_respActive : (watchdog s).respActive = s.respActive := rfl
@[simp] theorem watchdog_registered : (watchdog s).registered = s.registered := rfl
@[simp] theorem watchdog_regTs : (watchdog s).regTs = s.regTs := rfl
@[simp] theorem watchdog_txResult : (watchdog s).txResult = s.txResult := rfl
@[simp] theorem watchdog_rxResult : (watchdog s).rxResult = s.rxResult := rfl
@[simp] theorem watchdog_ownAddr : (watchdog s).ownAddr = s.ownAddr := rfl
@[simp] theorem watchdog_peerAddr : (watchdog s).peerAddr = s.peerAddr := rfl
@[simp] theorem watchdog_bcastAddr : (watchdog s).bcastAddr = s.bcastAddr := rfl
@[simp] theorem watchdog_ctrlFlags : (watchdog s).ctrlFlags = s.ctrlFlags := rfl
@[simp] theorem watchdog_filterEn : (watchdog s).filterEn = s.filterEn := rfl
@[simp] theorem watchdog_errlogEn : (watchdog s).errlogEn = s.errlogEn := rfl
@[simp] theorem watchdog_wdtcnt :
    (watchdog s).wdtcnt = if kicks s then 0 else if s.phase = .idle then s.wdtcnt + 1 else 0 := rfl
@[simp] theorem watchdog_fault : (watchdog s).fault = s.fault := rfl
@[simp] theorem watchdog_time : (watchdog s).time = s.time := rfl
@[simp] theorem watchdog_feed : (watchdog s).feed = s.feed := rfl
@[simp] theorem watchdog_opTick : (watchdog s).opTick = s.opTick := rfl
@[simp] theorem watchdog_events :
    (watchdog s).events = s.events ++ stamped s.time (if kicks s then [.wdtKick] else []) := rfl
@[simp] theorem watchdog_reads : (watchdog s).reads = s.reads := rfl

/-! ### putRead -/

@[simp] theorem putRead_par (v : Reg16) : (putRead v s).par = s.par := rfl
@[simp] theorem putRead_busOut (v : Reg16) : (putRead v s).busOut = s.busOut := rfl
@[simp] theorem putRead_phase (v : Reg16) : (putRead v s).phase = s.phase := rfl
@[simp] theorem putRead_cnt (v : Reg16) : (putRead v s).cnt = s.cnt := rfl
@[simp] theorem putRead_elem (v : Reg16) : (putRead v s).elem = s.elem := rfl
@[simp] theorem putRead_nbits (v : Reg16) : (putRead v s).nbits = s.nbits := rfl
@[simp] theorem putRead_didx (v : Reg16) : (putRead v s).didx = s.didx := rfl
@[simp] theorem putRead_shift (v : Reg16) : (putRead v s).shift = s.shift := rfl
@[simp] theorem putRead_parity (v : Reg16) : (putRead v s).parity = s.parity := rfl
@[simp] theorem putRead_hold (v : Reg16) : (putRead v s).hold = s.hold := rfl
@[simp] theorem putRead_per (v : Reg16) : (putRead v s).per = s.per := rfl
@[simp] theorem putRead_meas (v : Reg16) : (putRead v s).meas = s.meas := rfl
@[simp] theorem putRead_acked (v : Reg16) : (putRead v s).acked = s.acked := rfl
@[simp] theorem putRead_forme (v : Reg16) : (putRead v s).forme = s.forme := rfl
@[simp] theorem putRead_frame (v : Reg16) : (putRead v s).frame = s.frame := rfl
@[simp] theorem putRead_txb (v : Reg16) : (putRead v s).txb = s.txb := rfl
@[simp] theorem putRead_txPending (v : Reg16) : (putRead v s).txPending = s.txPending := rfl
@[simp] theorem putRead_respActive (v : Reg16) : (putRead v s).respActive = s.respActive := rfl
@[simp] theorem putRead_registered (v : Reg16) : (putRead v s).registered = s.registered := rfl
@[simp] theorem putRead_regTs (v : Reg16) : (putRead v s).regTs = s.regTs := rfl
@[simp] theorem putRead_txResult (v : Reg16) : (putRead v s).txResult = s.txResult := rfl
@[simp] theorem putRead_rxResult (v : Reg16) : (putRead v s).rxResult = s.rxResult := rfl
@[simp] theorem putRead_ownAddr (v : Reg16) : (putRead v s).ownAddr = s.ownAddr := rfl
@[simp] theorem putRead_peerAddr (v : Reg16) : (putRead v s).peerAddr = s.peerAddr := rfl
@[simp] theorem putRead_bcastAddr (v : Reg16) : (putRead v s).bcastAddr = s.bcastAddr := rfl
@[simp] theorem putRead_ctrlFlags (v : Reg16) : (putRead v s).ctrlFlags = s.ctrlFlags := rfl
@[simp] theorem putRead_filterEn (v : Reg16) : (putRead v s).filterEn = s.filterEn := rfl
@[simp] theorem putRead_errlogEn (v : Reg16) : (putRead v s).errlogEn = s.errlogEn := rfl
@[simp] theorem putRead_wdtcnt (v : Reg16) : (putRead v s).wdtcnt = s.wdtcnt := rfl
@[simp] theorem putRead_fault (v : Reg16) : (putRead v s).fault = s.fault := rfl
@[simp] theorem putRead_time (v : Reg16) : (putRead v s).time = s.time := rfl
@[simp] theorem putRead_feed (v : Reg16) : (putRead v s).feed = s.feed := rfl
@[simp] theorem putRead_opTick (v : Reg16) : (putRead v s).opTick = s.opTick := rfl
@[simp] theorem putRead_events (v : Reg16) : (putRead v s).events = s.events := rfl
@[simp] theorem putRead_reads (v : Reg16) : (putRead v s).reads = s.reads ++ [(s.time, v)] := rfl

/-! ### setTxbByte -/

@[simp] theorem setTxbByte_par (i : BitVec 5) (d : Byte) : (setTxbByte i d s).par = s.par := rfl
@[simp] theorem setTxbByte_busOut (i : BitVec 5) (d : Byte) : (setTxbByte i d s).busOut = s.busOut := rfl
@[simp] theorem setTxbByte_phase (i : BitVec 5) (d : Byte) : (setTxbByte i d s).phase = s.phase := rfl
@[simp] theorem setTxbByte_cnt (i : BitVec 5) (d : Byte) : (setTxbByte i d s).cnt = s.cnt := rfl
@[simp] theorem setTxbByte_elem (i : BitVec 5) (d : Byte) : (setTxbByte i d s).elem = s.elem := rfl
@[simp] theorem setTxbByte_nbits (i : BitVec 5) (d : Byte) : (setTxbByte i d s).nbits = s.nbits := rfl
@[simp] theorem setTxbByte_didx (i : BitVec 5) (d : Byte) : (setTxbByte i d s).didx = s.didx := rfl
@[simp] theorem setTxbByte_shift (i : BitVec 5) (d : Byte) : (setTxbByte i d s).shift = s.shift := rfl
@[simp] theorem setTxbByte_parity (i : BitVec 5) (d : Byte) : (setTxbByte i d s).parity = s.parity := rfl
@[simp] theorem setTxbByte_hold (i : BitVec 5) (d : Byte) : (setTxbByte i d s).hold = s.hold := rfl
@[simp] theorem setTxbByte_per (i : BitVec 5) (d : Byte) : (setTxbByte i d s).per = s.per := rfl
@[simp] theorem setTxbByte_meas (i : BitVec 5) (d : Byte) : (setTxbByte i d s).meas = s.meas := rfl
@[simp] theorem setTxbByte_acked (i : BitVec 5) (d : Byte) : (setTxbByte i d s).acked = s.acked := rfl
@[simp] theorem setTxbByte_forme (i : BitVec 5) (d : Byte) : (setTxbByte i d s).forme = s.forme := rfl
@[simp] theorem setTxbByte_frame (i : BitVec 5) (d : Byte) : (setTxbByte i d s).frame = s.frame := rfl
@[simp] theorem setTxbByte_txb (i : BitVec 5) (d : Byte) :
    (setTxbByte i d s).txb = { s.txb with data := s.txb.data.setIfInBounds i.toNat d } := rfl
@[simp] theorem setTxbByte_txPending (i : BitVec 5) (d : Byte) :
    (setTxbByte i d s).txPending = s.txPending := rfl
@[simp] theorem setTxbByte_respActive (i : BitVec 5) (d : Byte) :
    (setTxbByte i d s).respActive = s.respActive := rfl
@[simp] theorem setTxbByte_registered (i : BitVec 5) (d : Byte) :
    (setTxbByte i d s).registered = s.registered := rfl
@[simp] theorem setTxbByte_regTs (i : BitVec 5) (d : Byte) : (setTxbByte i d s).regTs = s.regTs := rfl
@[simp] theorem setTxbByte_txResult (i : BitVec 5) (d : Byte) :
    (setTxbByte i d s).txResult = s.txResult := rfl
@[simp] theorem setTxbByte_rxResult (i : BitVec 5) (d : Byte) :
    (setTxbByte i d s).rxResult = s.rxResult := rfl
@[simp] theorem setTxbByte_ownAddr (i : BitVec 5) (d : Byte) : (setTxbByte i d s).ownAddr = s.ownAddr := rfl
@[simp] theorem setTxbByte_peerAddr (i : BitVec 5) (d : Byte) :
    (setTxbByte i d s).peerAddr = s.peerAddr := rfl
@[simp] theorem setTxbByte_bcastAddr (i : BitVec 5) (d : Byte) :
    (setTxbByte i d s).bcastAddr = s.bcastAddr := rfl
@[simp] theorem setTxbByte_ctrlFlags (i : BitVec 5) (d : Byte) :
    (setTxbByte i d s).ctrlFlags = s.ctrlFlags := rfl
@[simp] theorem setTxbByte_filterEn (i : BitVec 5) (d : Byte) :
    (setTxbByte i d s).filterEn = s.filterEn := rfl
@[simp] theorem setTxbByte_errlogEn (i : BitVec 5) (d : Byte) :
    (setTxbByte i d s).errlogEn = s.errlogEn := rfl
@[simp] theorem setTxbByte_wdtcnt (i : BitVec 5) (d : Byte) : (setTxbByte i d s).wdtcnt = s.wdtcnt := rfl
@[simp] theorem setTxbByte_fault (i : BitVec 5) (d : Byte) : (setTxbByte i d s).fault = s.fault := rfl
@[simp] theorem setTxbByte_time (i : BitVec 5) (d : Byte) : (setTxbByte i d s).time = s.time := rfl
@[simp] theorem setTxbByte_feed (i : BitVec 5) (d : Byte) : (setTxbByte i d s).feed = s.feed := rfl
@[simp] theorem setTxbByte_opTick (i : BitVec 5) (d : Byte) : (setTxbByte i d s).opTick = s.opTick := rfl
@[simp] theorem setTxbByte_events (i : BitVec 5) (d : Byte) : (setTxbByte i d s).events = s.events := rfl
@[simp] theorem setTxbByte_reads (i : BitVec 5) (d : Byte) : (setTxbByte i d s).reads = s.reads := rfl

/-! ### setForme -/

@[simp] theorem setForme_par (f : FieldCode) : (setForme f s).par = s.par := rfl
@[simp] theorem setForme_busOut (f : FieldCode) : (setForme f s).busOut = s.busOut := rfl
@[simp] theorem setForme_phase (f : FieldCode) : (setForme f s).phase = s.phase := rfl
@[simp] theorem setForme_cnt (f : FieldCode) : (setForme f s).cnt = s.cnt := rfl
@[simp] theorem setForme_elem (f : FieldCode) : (setForme f s).elem = s.elem := rfl
@[simp] theorem setForme_nbits (f : FieldCode) : (setForme f s).nbits = s.nbits := rfl
@[simp] theorem setForme_didx (f : FieldCode) : (setForme f s).didx = s.didx := rfl
@[simp] theorem setForme_shift (f : FieldCode) : (setForme f s).shift = s.shift := rfl
@[simp] theorem setForme_parity (f : FieldCode) : (setForme f s).parity = s.parity := rfl
@[simp] theorem setForme_hold (f : FieldCode) : (setForme f s).hold = s.hold := rfl
@[simp] theorem setForme_per (f : FieldCode) : (setForme f s).per = s.per := rfl
@[simp] theorem setForme_meas (f : FieldCode) : (setForme f s).meas = s.meas := rfl
@[simp] theorem setForme_acked (f : FieldCode) : (setForme f s).acked = s.acked := rfl
@[simp] theorem setForme_forme (f : FieldCode) :
    (setForme f s).forme = if f = .slave then decide (s.frame.slave = s.ownAddr) else s.forme := rfl
@[simp] theorem setForme_frame (f : FieldCode) : (setForme f s).frame = s.frame := rfl
@[simp] theorem setForme_txb (f : FieldCode) : (setForme f s).txb = s.txb := rfl
@[simp] theorem setForme_txPending (f : FieldCode) : (setForme f s).txPending = s.txPending := rfl
@[simp] theorem setForme_respActive (f : FieldCode) : (setForme f s).respActive = s.respActive := rfl
@[simp] theorem setForme_registered (f : FieldCode) : (setForme f s).registered = s.registered := rfl
@[simp] theorem setForme_regTs (f : FieldCode) : (setForme f s).regTs = s.regTs := rfl
@[simp] theorem setForme_txResult (f : FieldCode) : (setForme f s).txResult = s.txResult := rfl
@[simp] theorem setForme_rxResult (f : FieldCode) : (setForme f s).rxResult = s.rxResult := rfl
@[simp] theorem setForme_ownAddr (f : FieldCode) : (setForme f s).ownAddr = s.ownAddr := rfl
@[simp] theorem setForme_peerAddr (f : FieldCode) : (setForme f s).peerAddr = s.peerAddr := rfl
@[simp] theorem setForme_bcastAddr (f : FieldCode) : (setForme f s).bcastAddr = s.bcastAddr := rfl
@[simp] theorem setForme_ctrlFlags (f : FieldCode) : (setForme f s).ctrlFlags = s.ctrlFlags := rfl
@[simp] theorem setForme_filterEn (f : FieldCode) : (setForme f s).filterEn = s.filterEn := rfl
@[simp] theorem setForme_errlogEn (f : FieldCode) : (setForme f s).errlogEn = s.errlogEn := rfl
@[simp] theorem setForme_wdtcnt (f : FieldCode) : (setForme f s).wdtcnt = s.wdtcnt := rfl
@[simp] theorem setForme_fault (f : FieldCode) : (setForme f s).fault = s.fault := rfl
@[simp] theorem setForme_time (f : FieldCode) : (setForme f s).time = s.time := rfl
@[simp] theorem setForme_feed (f : FieldCode) : (setForme f s).feed = s.feed := rfl
@[simp] theorem setForme_opTick (f : FieldCode) : (setForme f s).opTick = s.opTick := rfl
@[simp] theorem setForme_events (f : FieldCode) : (setForme f s).events = s.events := rfl
@[simp] theorem setForme_reads (f : FieldCode) : (setForme f s).reads = s.reads := rfl

end Sys2Proof.Machine
end

