-- ==== Sys2Proof/Laws/Ops.lean ====
section
/-! SUPPORT. What each shared operation can do, said once: the lemmas that later proofs cite instead of unfolding
it. -/

namespace Sys2Proof.Machine

/-! ## Meanings and runs of ticks -/

theorem live_none {s : State} (h : s.fault = none) (f : State → State) : live s f = .next (f s) := by
  simp [live, h]

theorem live_some {s : State} {r : Fault} (h : s.fault = some r) (f : State → State) : live s f = .fault r := by
  simp [live, h]

/-- A meaning answers a next state exactly on a state with no fault. -/
theorem live_next_iff {s t : State} {f : State → State} : live s f = .next t ↔ s.fault = none ∧ t = f s := by
  cases h : s.fault <;> simp [live, h, eq_comm]

theorem live_not_refused {s : State} {f : State → State} {r : Refusal} : live s f ≠ .refused r := by
  cases h : s.fault <;> simp [live, h]

@[simp] theorem drive_nil (s : State) : drive [] s = s := rfl

theorem drive_cons {s : State} (h : s.fault = none) (e : Bool) (es : List Bool) :
    drive (e :: es) s = drive es (tick e (Config.tsIn s.time) s) := by
  simp [drive, h]

/-- A fault ends a run of ticks. -/
theorem drive_fault {s : State} {r : Fault} (h : s.fault = some r) (es : List Bool) : drive es s = s := by
  cases es <;> simp [drive, h]

theorem drive_append (xs ys : List Bool) (s : State) : drive (xs ++ ys) s = drive ys (drive xs s) := by
  induction xs generalizing s with
  | nil => rfl
  | cons x xs ih =>
    cases h : s.fault with
    | none => rw [List.cons_append, drive_cons h, drive_cons h, ih]
    | some r => rw [drive_fault h, drive_fault h, drive_fault h]

@[simp] theorem tick_time (ext : Bool) (ts : Stamp) (s : State) : (tick ext ts s).time = s.time + 1 := rfl

theorem busTrace_append (xs ys : List Bool) (s t : State)
    (h : t = xs.foldl (fun u e => tick e (Config.tsIn u.time) u) s) :
    busTrace (xs ++ ys) s = busTrace xs s ++ busTrace ys t := by
  subst h
  induction xs generalizing s with
  | nil => rfl
  | cons x xs ih => simp [busTrace, ih]

@[simp] theorem stamped_nil (t : Nat) : stamped t [] = [] := rfl

@[simp] theorem stamped_cons (t : Nat) (e : Event) (es : List Event) :
    stamped t (e :: es) = (t, e) :: stamped t es := rfl

/-! ## Waveforms and symbols -/

@[simp] theorem wave_nil (p : Params) : wave p [] = [] := rfl

@[simp] theorem wave_cons (p : Params) (x : Symbol) (xs : List Symbol) :
    wave p (x :: xs) = symbolWave p x ++ wave p xs := by simp [wave]

@[simp] theorem wave_append (p : Params) (xs ys : List Symbol) : wave p (xs ++ ys) = wave p xs ++ wave p ys := by
  simp [wave]

@[simp] theorem msbFirst_length {w : Nat} (v : BitVec w) (n : Nat) : (msbFirst v n).length = n := by
  induction n with
  | zero => rfl
  | succ n ih => simp [msbFirst, ih]

@[simp] theorem bitOf_symbolOf (b : Bool) : bitOf (symbolOf b) = some b := by cases b <;> rfl

@[simp] theorem bitsOf_map_symbolOf (bs : List Bool) : bitsOf (bs.map symbolOf) = some bs := by
  induction bs with
  | nil => rfl
  | cons b bs ih => simp [bitsOf, ih]

/-! ## Host operation words -/

@[simp] theorem hostDir_hostWord (d : Bool) (a : RegAddr) (v : Reg16) : hostDir (hostWord d a v) = d := by
  simp only [hostDir, hostWord, BitVec.getLsbD_append]
  simp

@[simp] theorem hostAddr_hostWord (d : Bool) (a : RegAddr) (v : Reg16) : hostAddr (hostWord d a v) = a := by
  apply BitVec.eq_of_getLsbD_eq
  intro i hi
  simp only [hostAddr, hostWord, BitVec.getLsbD_extractLsb', BitVec.getLsbD_append]
  simp [hi]

@[simp] theorem hostData_hostWord (d : Bool) (a : RegAddr) (v : Reg16) : hostData (hostWord d a v) = v := by
  apply BitVec.eq_of_getLsbD_eq
  intro i hi
  simp only [hostData, hostWord, BitVec.getLsbD_extractLsb', BitVec.getLsbD_append]
  simp [hi]

/-- A host operation writes a register or puts out one. -/
theorem hostOp_cases (w : HostWord) (s : State) :
    (hostDir w = true ∧ hostOp w s = hostWrite (hostAddr w) (hostData w) s) ∨
    (hostDir w = false ∧ hostOp w s = putRead (hostRead (hostAddr w) s) s) := by
  cases h : hostDir w <;> simp [hostOp, h]

/-- All that a host write can do. -/
theorem hostWrite_cases (a : RegAddr) (v : Reg16) (s : State) :
    hostWrite a v s = s ∨
    (∃ b, hostWrite a v s = { s with txb := b }) ∨
    (∃ f e, hostWrite a v s = { s with filterEn := f, errlogEn := e }) ∨
    (∃ x, hostWrite a v s = { s with ownAddr := x }) ∨ (∃ x, hostWrite a v s = { s with peerAddr := x }) ∨
    (∃ x, hostWrite a v s = { s with bcastAddr := x }) ∨ (∃ x, hostWrite a v s = { s with ctrlFlags := x }) ∨
    hostWrite a v s = { s with txPending := v.getLsbD 0 || s.txPending } := by
  unfold hostWrite
  by_cases h0 : a.extractLsb' 5 2 = 1#2
  · rw [if_pos h0]
    exact .inr (.inl ⟨_, rfl⟩)
  rw [if_neg h0]
  by_cases h1 : a = 0x00#7
  · rw [if_pos h1]
    exact .inr (.inr (.inl ⟨_, _, rfl⟩))
  rw [if_neg h1]
  by_cases h2 : a = 0x04#7
  · rw [if_pos h2]
    exact .inr (.inr (.inr (.inl ⟨_, rfl⟩)))
  rw [if_neg h2]
  by_cases h3 : a = 0x05#7
  · rw [if_pos h3]
    exact .inr (.inr (.inr (.inr (.inl ⟨_, rfl⟩))))
  rw [if_neg h3]
  by_cases h4 : a = 0x06#7
  · rw [if_pos h4]
    exact .inr (.inr (.inr (.inr (.inr (.inl ⟨_, rfl⟩)))))
  rw [if_neg h4]
  by_cases h5 : a = 0x07#7
  · rw [if_pos h5]
    exact .inr (.inr (.inr (.inr (.inr (.inr (.inl ⟨_, rfl⟩))))))
  rw [if_neg h5]
  by_cases h6 : a = 0x0F#7
  · rw [if_pos h6]
    exact .inr (.inr (.inr (.inr (.inr (.inr (.inr (rfl)))))))
  rw [if_neg h6]
  by_cases h7 : a = 0x10#7
  · rw [if_pos h7]
    exact .inr (.inl ⟨_, rfl⟩)
  rw [if_neg h7]
  by_cases h8 : a = 0x11#7
  · rw [if_pos h8]
    exact .inr (.inl ⟨_, rfl⟩)
  rw [if_neg h8]
  by_cases h9 : a = 0x12#7
  · rw [if_pos h9]
    exact .inr (.inl ⟨_, rfl⟩)
  rw [if_neg h9]
  by_cases h10 : a = 0x13#7
  · rw [if_pos h10]
    exact .inr (.inl ⟨_, rfl⟩)
  rw [if_neg h10]
  by_cases h11 : a = 0x14#7
  · rw [if_pos h11]
    exact .inr (.inl ⟨_, rfl⟩)
  rw [if_neg h11]
  exact .inl rfl

/-! ## The element sequence -/

/-- NextElem leaves DIDX alone, starts it at 0, or moves it to the next byte below the length. -/
theorem nextElem_index {e e' : Elem} {d d' len : Byte} (h : nextElem e d len = some (e', d')) :
    d' = d ∨ (e' = .el .data .val ∧ d' = 0 ∧ len ≠ 0) ∨
    (e' = .el .data .val ∧ d' = d + 1 ∧ d.toNat + 1 < len.toNat) := by
  unfold nextElem at h
  split at h <;> simp at h <;> try exact .inl h.2.symm
  · split at h <;> simp at h
    · exact .inl h.2.symm
    · exact .inr (.inl ⟨h.1.symm, h.2.symm, by assumption⟩)
  · split at h <;> simp at h
    · exact .inr (.inr ⟨h.1.symm, h.2.symm, by assumption⟩)
    · exact .inl h.2.symm

/-- The element after a slot is never a slot (44_frame_transmit.md R137). -/
theorem nextElem_after_slot {f g : FieldCode} {k : Kind} {d d' len : Byte}
    (h : nextElem (.el f .ack) d len = some (.el g k, d')) : k = .val := by
  cases f <;> simp [nextElem] at h
  case slave => exact h.1.2.symm
  case control => exact h.1.2.symm
  all_goals
    split at h <;> simp at h
    exact h.1.2.symm

/-! ## The transmit pass -/

/-- StartHostTx faults on a length above 32 and else enters ARB with TXB copied (44_frame_transmit.md R135). -/
theorem startHostTx_cases (s : State) :
    (maxData < s.txb.len.toNat ∧ startHostTx s = raise .lengthOverflow { s with frame := s.txb }) ∨
    (s.txb.len.toNat ≤ maxData ∧
      startHostTx s = { s with frame := s.txb, txResult := 0, didx := 0, phase := .arb, cnt := 0 }) := by
  unfold startHostTx
  split
  · exact .inl ⟨by assumption, rfl⟩
  · exact .inr ⟨by omega, rfl⟩

/-- A slot is opened, or, for a Broadcast frame under OMIT, passed over. -/
theorem beginAck_cases (ts : Stamp) (s : State) :
    beginAck ts s = openSlot s ∨ beginAck ts s = raise .noRule s ∨
    ∃ e d, nextElem s.elem s.didx s.frame.len = some (e, d) ∧
      beginAck ts s = beginTxSymbol e ts { s with didx := d } := by
  unfold beginAck
  split
  · split
    · exact .inr (.inr ⟨_, _, by assumption, rfl⟩)
    · exact .inr (.inl rfl)
  · exact .inl rfl
  · exact .inl rfl

/-- The transmit pass goes on to the next element of the sequence (40_step.md R90). -/
theorem advanceTx_cases (ts : Stamp) (s : State) :
    (nextElem s.elem s.didx s.frame.len = none ∧ advanceTx ts s = raise .noRule s) ∨
    ∃ e d, nextElem s.elem s.didx s.frame.len = some (e, d) ∧
      advanceTx ts s = beginTxElem e ts { s with didx := d } := by
  unfold advanceTx
  split
  · exact .inr ⟨_, _, by assumption, rfl⟩
  · exact .inl ⟨by assumption, rfl⟩

/-! ## The receive pass -/

/-- AckDone ends the pass at END and else goes on to the next value (45_frame_receive.md R159). -/
theorem ackDone_cases (ts : Stamp) (s : State) :
    (nextElem s.elem s.didx s.frame.len = none ∧ ackDone ts s = (raise .noRule s, false)) ∨
    (∃ d, nextElem s.elem s.didx s.frame.len = some (.fin, d) ∧
      ackDone ts s = (rxFinish ts { s with elem := .fin, didx := d }, false)) ∨
    ∃ f k d, nextElem s.elem s.didx s.frame.len = some (.el f k, d) ∧
      ackDone ts s = (enterElem (.el f k) d s, true) := by
  unfold ackDone
  split
  · exact .inr (.inl ⟨_, by assumption, rfl⟩)
  · exact .inr (.inr ⟨_, _, _, by assumption, rfl⟩)
  · exact .inl ⟨by assumption, rfl⟩

/-- What a parity bit does (45_frame_receive.md R158): the pass ends, the model stops, or the pass goes on. -/
theorem deliverPar_cases (f : FieldCode) (b : Bool) (s : State) :
    (b ≠ s.parity ∧ deliverPar f b s = (parityError f s, false)) ∨
    (b = s.parity ∧ f = .length ∧ maxData < s.frame.len.toNat ∧
      deliverPar f b s = (raise .lengthOverflow s, false)) ∨
    (b = s.parity ∧ ¬(f = .length ∧ maxData < s.frame.len.toNat) ∧
      deliverPar f b s = advanceRx (setForme f s)) := by
  unfold deliverPar
  split
  · exact .inl ⟨by assumption, rfl⟩
  · rename_i h
    have hb : b = s.parity := by simpa using h
    split
    · rename_i hl
      exact .inr (.inl ⟨hb, hl.1, hl.2, rfl⟩)
    · exact .inr (.inr ⟨hb, by assumption, rfl⟩)

/-- How a received frame ends: answered, surfaced or filtered (45_frame_receive.md R161). -/
theorem conclude_cases (s : State) :
    (isProbe s = true ∧ conclude s = respond s.frame.data[1] s) ∨
    (isProbe s = false ∧ surfaces s = true ∧
      conclude s = emit [.rxValid, .diagDump (dumpOf s.frame)] (rxEnd .delivered .none 0 s)) ∨
    (isProbe s = false ∧ surfaces s = false ∧ conclude s = rxEnd .filtered .none 0 s) := by
  cases hp : isProbe s <;> cases hs : surfaces s <;> simp [conclude, hp, hs]

/-! ## Reading one byte of a frame store -/

/-- A stored byte reads back, and every other byte reads as before. -/
theorem setTxbByte_read (i j : BitVec 5) (d : Byte) (s : State) :
    byteWord (setTxbByte i d s).txb j = if i = j then d.setWidth 16 else byteWord s.txb j := by
  have hj := j.isLt
  by_cases h : i = j
  · subst h; simp [byteWord, setTxbByte]
  · have : i.toNat ≠ j.toNat := fun e => h (BitVec.eq_of_toNat_eq e)
    simp [byteWord, setTxbByte, h, this]

/-! ## The directives -/

/-- A row of the host port notes the current tick, and nothing else changes (log 20). -/
theorem noteRow_eq (i : Instr) (s : State) :
    noteRow i s = { s with opTick := if isHostRow i then some s.time else s.opTick } := by
  unfold noteRow noteOp
  split <;> rfl

/-- Words issued by the host are applied in order, and the tick is noted if there is one; nothing else is touched. -/
theorem issueWords_eq (ws : List HostWord) (s : State) :
    issueWords ws s = hostOps ws { s with opTick := if ws = [] then s.opTick else some s.time } := by
  cases ws <;> rfl

/-- A host operation word taken for what it is made of is that operation: the row it decodes to is not needed. -/
theorem passForm_host (w : HostWord) (s : State) : passForm (.host w) s = hostOp w (noteOp s) := rfl

/-- What TICKS n does in one step (30_encoding.md R83): with no tick to pass it is over; else one free tick passes and
one less stays scheduled. -/
theorem passTicks_cases (n : Nat) (rest : List Input) (s : State) :
    (ticksToPass n s = 0 ∧ passTicks n rest s = { s with feed := rest }) ∨
    (ticksToPass n s = 1 ∧ passTicks n rest s = freeTick { s with feed := rest }) ∨
    ∃ k, ticksToPass n s = k + 2 ∧ passTicks n rest s = freeTick { s with feed := .ticks (k + 1) :: rest } := by
  unfold passTicks
  split
  · exact .inl ⟨by assumption, rfl⟩
  · exact .inr (.inl ⟨by assumption, rfl⟩)
  · exact .inr (.inr ⟨_, by assumption, rfl⟩)

/-- In a tick with no operation TICKS n has n ticks to pass. -/
theorem ticksToPass_of_ne {n : Nat} {s : State} (h : s.opTick ≠ some s.time) : ticksToPass n s = n := if_neg h

/-- In a tick with an operation it has that tick and n more. -/
theorem ticksToPass_of_eq {n : Nat} {s : State} (h : s.opTick = some s.time) : ticksToPass n s = n + 1 := if_pos h

end Sys2Proof.Machine
end

