-- ==== Sys2Proof/Laws/PerInstr.lean ====
section
/-! SUPPORT. A fact of every instruction as syntax: its encoding has the form, the length and the fixed bits that its
row of spec/opcode_table.json gives it. One lemma per constructor. -/

namespace Sys2Proof.Laws.FixedBits

open Sys2Proof.Machine

/-- What a row of the table fixes of an encoding, by the row's format. -/
inductive Layout where
  /-- A wire symbol: its ticks, leftmost first, as a number. -/
  | ticks (n w : Nat)
  /-- A wire field: how many symbols it has. -/
  | symbols (f : FieldCode) (n : Nat)
  /-- A frame with n data fields. -/
  | frame (n : Nat)
  /-- One word: its mask and the value under it. -/
  | word (mask value : HostWord)
  /-- Several words: how many. -/
  | words (n : Nat)

/-- The rows of spec/opcode_table.json, in its order. -/
def row : Instr → Layout
  | .bit1 => .ticks 10 0b1111100000
  | .bit0 => .ticks 10 0b1111111110
  | .start => .ticks 47 0b11111111111111111111111111111111111111111100000
  | .ackSlotNotAcked => .ticks 10 0b1111100000
  | .ackSlotAcked => .ticks 10 0b1111111110
  | .fieldMode _ => .symbols .mode 1
  | .fieldMaster _ => .symbols .master 13
  | .fieldSlave _ => .symbols .slave 14
  | .fieldControl _ => .symbols .control 6
  | .fieldLength _ => .symbols .length 10
  | .fieldData _ => .symbols .data 10
  | .frame _ _ _ _ _ ds => .frame ds.length
  | .wrCtrl _ => .word 0xFF0000#24 0x800000#24
  | .rdCtrl => .word 0xFF0000#24 0x000000#24
  | .wrStatus _ => .word 0xFF0000#24 0x810000#24
  | .rdStatus => .word 0xFF0000#24 0x010000#24
  | .wrTxResult _ => .word 0xFF0000#24 0x820000#24
  | .rdTxResult => .word 0xFF0000#24 0x020000#24
  | .wrRxResult _ => .word 0xFF0000#24 0x830000#24
  | .rdRxResult => .word 0xFF0000#24 0x030000#24
  | .wrOwnAddr _ => .word 0xFF0000#24 0x840000#24
  | .rdOwnAddr => .word 0xFF0000#24 0x040000#24
  | .wrPeerAddr _ => .word 0xFF0000#24 0x850000#24
  | .rdPeerAddr => .word 0xFF0000#24 0x050000#24
  | .wrBcastAddr _ => .word 0xFF0000#24 0x860000#24
  | .rdBcastAddr => .word 0xFF0000#24 0x060000#24
  | .wrCtrlFlags _ => .word 0xFF0000#24 0x870000#24
  | .rdCtrlFlags => .word 0xFF0000#24 0x070000#24
  | .wrRegTsLo _ => .word 0xFF0000#24 0x880000#24
  | .rdRegTsLo => .word 0xFF0000#24 0x080000#24
  | .wrRegTsHi _ => .word 0xFF0000#24 0x890000#24
  | .rdRegTsHi => .word 0xFF0000#24 0x090000#24
  | .wrCmd _ => .word 0xFF0000#24 0x8F0000#24
  | .rdCmd => .word 0xFF0000#24 0x0F0000#24
  | .wrTxbMode _ => .word 0xFF0000#24 0x900000#24
  | .rdTxbMode => .word 0xFF0000#24 0x100000#24
  | .wrTxbMaster _ => .word 0xFF0000#24 0x910000#24
  | .rdTxbMaster => .word 0xFF0000#24 0x110000#24
  | .wrTxbSlave _ => .word 0xFF0000#24 0x920000#24
  | .rdTxbSlave => .word 0xFF0000#24 0x120000#24
  | .wrTxbCtrl _ => .word 0xFF0000#24 0x930000#24
  | .rdTxbCtrl => .word 0xFF0000#24 0x130000#24
  | .wrTxbLen _ => .word 0xFF0000#24 0x940000#24
  | .rdTxbLen => .word 0xFF0000#24 0x140000#24
  | .wrFrMode _ => .word 0xFF0000#24 0xC00000#24
  | .rdFrMode => .word 0xFF0000#24 0x400000#24
  | .wrFrMaster _ => .word 0xFF0000#24 0xC10000#24
  | .rdFrMaster => .word 0xFF0000#24 0x410000#24
  | .wrFrSlave _ => .word 0xFF0000#24 0xC20000#24
  | .rdFrSlave => .word 0xFF0000#24 0x420000#24
  | .wrFrCtrl _ => .word 0xFF0000#24 0xC30000#24
  | .rdFrCtrl => .word 0xFF0000#24 0x430000#24
  | .wrFrLen _ => .word 0xFF0000#24 0xC40000#24
  | .rdFrLen => .word 0xFF0000#24 0x440000#24
  | .wrTxbDataI _ _ => .word 0xE00000#24 0xA00000#24
  | .rdTxbDataI _ => .word 0xE00000#24 0x200000#24
  | .wrFrDataI _ _ => .word 0xE00000#24 0xE00000#24
  | .rdFrDataI _ => .word 0xE00000#24 0x600000#24
  | .wrRdReserved _ _ _ => .word 0#24 0#24
  | .txgo => .word 0xFFFFFF#24 0x8F0001#24
  | .send _ _ _ _ ds => .words (6 + ds.length)
  | .config _ _ _ _ => .words 4
  | .ctrlset _ _ => .word 0xFFFFFC#24 0x800000#24

/-- An encoded form has a layout. -/
def Fits (c : Code) : Layout → Prop
  | .ticks n w => ∃ slot, c = .symbol slot (natBits w n)
  | .symbols f n => ∃ ss, c = .field f ss ∧ ss.length = n
  | .frame n => ∃ ss, c = .frame ss ∧ ss.length = 45 + 10 * n
  | .word mask value => ∃ w, (c = .host w ∨ c = .pseudo [w]) ∧ w &&& mask = value
  | .words n => ∃ ws, c = .pseudo ws ∧ ws.length = n

/-- The encoding of i is laid out as its row of the table says. -/
def Statement (i : Instr) : Prop := Fits (encode i) (row i)

theorem hostWord_row (d : Bool) (a : RegAddr) (v : Reg16) : hostWord d a v &&& 0xFF0000#24 = hostWord d a 0 := by
  have h : (0xFF0000#24 : HostWord) = (0x1#1 ++ 0x7F#7) ++ 0#16 := by decide
  rw [h, hostWord, BitVec.and_append, BitVec.and_append, hostWord]
  congr 1
  · congr 1
    · cases d <;> rfl
    · exact BitVec.and_allOnes
  · simp

theorem hostWord_dataRow (d : Bool) (t : BitVec 2) (i : BitVec 5) (v : Reg16) :
    hostWord d (t ++ i) v &&& 0xE00000#24 = hostWord d (t ++ 0#5) 0 := by
  have h : (0xE00000#24 : HostWord) = (0x1#1 ++ (0x3#2 ++ 0#5)) ++ 0#16 := by decide
  rw [h, hostWord, BitVec.and_append, BitVec.and_append, BitVec.and_append, hostWord]
  congr 1
  · congr 1
    · cases d <;> rfl
    · congr 1
      · exact BitVec.and_allOnes
      · simp
  · simp

theorem host_holds (d : Bool) (a : RegAddr) (v : Reg16) :
    Fits (.host (hostWord d a v)) (.word 0xFF0000#24 (hostWord d a 0)) :=
  ⟨_, .inl rfl, hostWord_row d a v⟩

theorem data_holds (d : Bool) (t : BitVec 2) (i : BitVec 5) (v : Reg16) :
    Fits (.host (hostWord d (t ++ i) v)) (.word 0xE00000#24 (hostWord d (t ++ 0#5) 0)) :=
  ⟨_, .inl rfl, hostWord_dataRow d t i v⟩

theorem dataWords_length (i : Nat) (ds : List Byte) : (dataWords i ds).length = ds.length := by
  induction ds generalizing i with
  | nil => rfl
  | cons d ds ih => simp [dataWords, ih]

theorem dataFieldSymbols_length (ds : List (AckField 8)) : (dataFieldSymbols ds).length = 10 * ds.length := by
  induction ds with
  | nil => rfl
  | cons d ds ih =>
    simp only [dataFieldSymbols, List.flatMap_cons, List.length_append, List.length_cons] at ih ⊢
    rw [ih]
    simp [ackFieldSymbols, valueSymbols]
    omega

theorem frame_holds (m : Bool) (a : ParField 12) (b : AckField 12) (c : AckField 4) (l : AckField 8)
    (ds : List (AckField 8)) : Fits (encode (.frame m a b c l ds)) (.frame ds.length) :=
  ⟨_, rfl, by
    simp [frameSymbols, parFieldSymbols, ackFieldSymbols, valueSymbols, dataFieldSymbols_length]
    omega⟩

theorem bit1 : Statement .bit1 := ⟨_, rfl⟩
theorem bit0 : Statement .bit0 := ⟨_, rfl⟩
theorem start : Statement .start := ⟨_, rfl⟩
theorem ackSlotNotAcked : Statement .ackSlotNotAcked := ⟨_, rfl⟩
theorem ackSlotAcked : Statement .ackSlotAcked := ⟨_, rfl⟩
theorem fieldMode (m : Bool) : Statement (.fieldMode m) := ⟨_, rfl, rfl⟩
theorem fieldMaster (a : ParField 12) : Statement (.fieldMaster a) :=
  ⟨_, rfl, by simp [parFieldSymbols, valueSymbols]⟩
theorem fieldSlave (a : AckField 12) : Statement (.fieldSlave a) :=
  ⟨_, rfl, by simp [ackFieldSymbols, valueSymbols]⟩
theorem fieldControl (c : AckField 4) : Statement (.fieldControl c) :=
  ⟨_, rfl, by simp [ackFieldSymbols, valueSymbols]⟩
theorem fieldLength (l : AckField 8) : Statement (.fieldLength l) :=
  ⟨_, rfl, by simp [ackFieldSymbols, valueSymbols]⟩
theorem fieldData (d : AckField 8) : Statement (.fieldData d) :=
  ⟨_, rfl, by simp [ackFieldSymbols, valueSymbols]⟩
theorem frame (m : Bool) (a : ParField 12) (b : AckField 12) (c : AckField 4) (l : AckField 8) (ds : List (AckField 8)) : Statement (.frame m a b c l ds) :=
  frame_holds m a b c l ds
theorem wrCtrl (v : Reg16) : Statement (.wrCtrl v) := host_holds true 0x00#7 v
theorem rdCtrl : Statement .rdCtrl := host_holds false 0x00#7 0
theorem wrStatus (v : Reg16) : Statement (.wrStatus v) := host_holds true 0x01#7 v
theorem rdStatus : Statement .rdStatus := host_holds false 0x01#7 0
theorem wrTxResult (v : Reg16) : Statement (.wrTxResult v) := host_holds true 0x02#7 v
theorem rdTxResult : Statement .rdTxResult := host_holds false 0x02#7 0
theorem wrRxResult (v : Reg16) : Statement (.wrRxResult v) := host_holds true 0x03#7 v
theorem rdRxResult : Statement .rdRxResult := host_holds false 0x03#7 0
theorem wrOwnAddr (v : Reg16) : Statement (.wrOwnAddr v) := host_holds true 0x04#7 v
theorem rdOwnAddr : Statement .rdOwnAddr := host_holds false 0x04#7 0
theorem wrPeerAddr (v : Reg16) : Statement (.wrPeerAddr v) := host_holds true 0x05#7 v
theorem rdPeerAddr : Statement .rdPeerAddr := host_holds false 0x05#7 0
theorem wrBcastAddr (v : Reg16) : Statement (.wrBcastAddr v) := host_holds true 0x06#7 v
theorem rdBcastAddr : Statement .rdBcastAddr := host_holds false 0x06#7 0
theorem wrCtrlFlags (v : Reg16) : Statement (.wrCtrlFlags v) := host_holds true 0x07#7 v
theorem rdCtrlFlags : Statement .rdCtrlFlags := host_holds false 0x07#7 0
theorem wrRegTsLo (v : Reg16) : Statement (.wrRegTsLo v) := host_holds true 0x08#7 v
theorem rdRegTsLo : Statement .rdRegTsLo := host_holds false 0x08#7 0
theorem wrRegTsHi (v : Reg16) : Statement (.wrRegTsHi v) := host_holds true 0x09#7 v
theorem rdRegTsHi : Statement .rdRegTsHi := host_holds false 0x09#7 0
theorem wrCmd (v : Reg16) : Statement (.wrCmd v) := host_holds true 0x0F#7 v
theorem rdCmd : Statement .rdCmd := host_holds false 0x0F#7 0
theorem wrTxbMode (v : Reg16) : Statement (.wrTxbMode v) := host_holds true 0x10#7 v
theorem rdTxbMode : Statement .rdTxbMode := host_holds false 0x10#7 0
theorem wrTxbMaster (v : Reg16) : Statement (.wrTxbMaster v) := host_holds true 0x11#7 v
theorem rdTxbMaster : Statement .rdTxbMaster := host_holds false 0x11#7 0
theorem wrTxbSlave (v : Reg16) : Statement (.wrTxbSlave v) := host_holds true 0x12#7 v
theorem rdTxbSlave : Statement .rdTxbSlave := host_holds false 0x12#7 0
theorem wrTxbCtrl (v : Reg16) : Statement (.wrTxbCtrl v) := host_holds true 0x13#7 v
theorem rdTxbCtrl : Statement .rdTxbCtrl := host_holds false 0x13#7 0
theorem wrTxbLen (v : Reg16) : Statement (.wrTxbLen v) := host_holds true 0x14#7 v
theorem rdTxbLen : Statement .rdTxbLen := host_holds false 0x14#7 0
theorem wrFrMode (v : Reg16) : Statement (.wrFrMode v) := host_holds true 0x40#7 v
theorem rdFrMode : Statement .rdFrMode := host_holds false 0x40#7 0
theorem wrFrMaster (v : Reg16) : Statement (.wrFrMaster v) := host_holds true 0x41#7 v
theorem rdFrMaster : Statement .rdFrMaster := host_holds false 0x41#7 0
theorem wrFrSlave (v : Reg16) : Statement (.wrFrSlave v) := host_holds true 0x42#7 v
theorem rdFrSlave : Statement .rdFrSlave := host_holds false 0x42#7 0
theorem wrFrCtrl (v : Reg16) : Statement (.wrFrCtrl v) := host_holds true 0x43#7 v
theorem rdFrCtrl : Statement .rdFrCtrl := host_holds false 0x43#7 0
theorem wrFrLen (v : Reg16) : Statement (.wrFrLen v) := host_holds true 0x44#7 v
theorem rdFrLen : Statement .rdFrLen := host_holds false 0x44#7 0
theorem wrTxbDataI (i : BitVec 5) (v : Reg16) : Statement (.wrTxbDataI i v) := data_holds true 1#2 i v
theorem rdTxbDataI (i : BitVec 5) : Statement (.rdTxbDataI i) := data_holds false 1#2 i 0
theorem wrFrDataI (i : BitVec 5) (v : Reg16) : Statement (.wrFrDataI i v) := data_holds true 3#2 i v
theorem rdFrDataI (i : BitVec 5) : Statement (.rdFrDataI i) := data_holds false 3#2 i 0
theorem wrRdReserved (dir : Bool) (a : RegAddr) (v : Reg16) : Statement (.wrRdReserved dir a v) :=
  ⟨_, .inl rfl, by simp⟩
theorem txgo : Statement .txgo := ⟨_, .inr rfl, rfl⟩
theorem send (m : Bool) (ma : Addr12) (sa : Addr12) (c : Nibble) (ds : List Byte) : Statement (.send m ma sa c ds) :=
  ⟨_, rfl, by simp [sendWords, dataWords_length]; omega⟩
theorem config (own : Addr12) (peer : Addr12) (bcast : Addr12) (flags : Nibble) : Statement (.config own peer bcast flags) :=
  ⟨_, rfl, rfl⟩
theorem ctrlset (f : Bool) (e : Bool) : Statement (.ctrlset f e) :=
  ⟨_, .inr rfl, by cases f <;> cases e <;> rfl⟩

end Sys2Proof.Laws.FixedBits
end

