-- ==== Sys2Proof/Tests/Slice0.lean ====
section
/-! SUPPORT. The model's own tests: ill-formed terms, words written out from the encoding tables, single steps with results
from the spec's worked examples (95_test_vectors.md and the rules cited), and states that meet the
hypotheses of the statements. -/

namespace Sys2Proof.Tests

open Sys2Proof.Machine

/-! ## Helpers -/

/-- The spec's parameters with a bounded wait of 60 ticks, a kick every 4 ticks, broadcast address 0xFFF. -/
def params0 : Params := Config.withOpen (some 60) 4#16 0xFFF#12

/-- The reset state under those parameters. -/
def block : State := State.resetWith params0

/-- The state an outcome leaves, the reset state if it is none. -/
def after : Host.Outcome State Fault Refusal → State
  | .next s => s
  | .fault _ => block
  | .refused _ => block

/-- What a read put out last. -/
def readOf (o : Host.Outcome State Fault Refusal) : Option Reg16 := ((after o).reads.getLast?).map (·.2)

/-- The instruction the decoder reads. -/
def reads (c : Code) : Option Instr :=
  match decode c with
  | .ok i => some i
  | .error _ => none

/-- Why the decoder reads none. -/
def rejects (c : Code) : Option DecodeError :=
  match decode c with
  | .ok _ => none
  | .error e => some e

/-- A receiver at the first symbol of a field. -/
def rxField (f : FieldCode) (s : State) : State :=
  { s with phase := .rxWaithigh, elem := .el f .val, nbits := BitVec.ofNat 4 (fieldWidth f) }

/-- A receiver waiting for a field's slot. -/
def rxSlot (f : FieldCode) (s : State) : State := { s with phase := .rxWaithigh, elem := .el f .ack }

/-- A receiver that has measured w ticks of a field's parity symbol. -/
def rxParity (f : FieldCode) (w : BitVec 16) (s : State) : State :=
  { s with phase := .rxMeas, elem := .el f .par, cnt := w }

/-- A frame with a length and otherwise zero. -/
def frameLen (n : Byte) : FrameBuf := { FrameBuf.zero with len := n }

/-- A Normal frame to 0x130 with one data byte, that of Scenario A. -/
def frameA : FrameBuf where
  mode := true
  master := 0x140
  slave := 0x130
  ctrl := 0xE
  len := 1
  data := (Vector.replicate 32 0).set 0 0x1F

/-- A sender at the first tick of Scenario A's start bit. -/
def senderA : State := encodeStart { block with frame := frameA }

/-! ## WellFormed refuses the ill-formed (30_encoding.md R78, R80, R84) -/

theorem test_wf_reserved_address : WellFormed (.wrRdReserved true 0x04 0) = false := by decide
theorem test_wf_reserved_edge : WellFormed (.wrRdReserved false 0x60 0) = false := by decide
theorem test_wf_send_too_long : WellFormed (.send true 0x140 0x130 0xE (List.replicate 33 0)) = false := by decide
theorem test_wf_frame_length :
    WellFormed (.frame true ⟨0, false⟩ ⟨0, false, true⟩ ⟨0, false, true⟩ ⟨2, true, true⟩ [⟨0, false, true⟩]) = false := by
  decide
theorem test_wf_reserved_ok : WellFormed (.wrRdReserved false 0x5F 0) = true := by decide

/-! ## Words written out from the encodings of 30_encoding.md -/

/-- R62 to R65: the waveforms, tick by tick. -/
theorem test_decode_symbols :
    reads (.symbol false [true, true, true, true, true, false, false, false, false, false]) = some .bit1 ∧
    reads (.symbol false [true, true, true, true, true, true, true, true, true, false]) = some .bit0 ∧
    reads (.symbol true [true, true, true, true, true, false, false, false, false, false]) =
      some .ackSlotNotAcked ∧
    reads (.symbol true [true, true, true, true, true, true, true, true, true, false]) = some .ackSlotAcked ∧
    reads (.symbol false (List.replicate 42 true ++ [false, false, false, false, false])) = some .start ∧
    rejects (.symbol true (List.replicate 42 true ++ [false, false, false, false, false])) =
      some .notASymbol ∧
    rejects (.symbol false (List.replicate 41 true ++ List.replicate 6 false)) = some .notASymbol := by
  decide

/-- R69, R68: mode 0; master 0x140 goes as 9 9 9 5 9 5 9 9 9 9 9 9 high ticks with parity 9
(95_test_vectors.md 2.2). -/
theorem test_decode_mode_master :
    reads (.field .mode [.zero]) = some (.fieldMode false) ∧
    reads (.field .master [.zero, .zero, .zero, .one, .zero, .one, .zero, .zero, .zero, .zero, .zero, .zero, .zero]) =
      some (.fieldMaster ⟨0x140, false⟩) ∧
    rejects (.field .master [.zero, .one]) = some .notAField ∧
    rejects (.field .start [.start]) = some .notAField := by
  decide

/-- R68, R139: slave 0x130 with parity 1, the slot acknowledged. -/
theorem test_decode_slave :
    reads (.field .slave
      [.zero, .zero, .zero, .one, .zero, .zero, .one, .one, .zero, .zero, .zero, .zero, .one, .zero]) =
      some (.fieldSlave ⟨0x130, true, false⟩) := by
  decide

/-- R68's worked example: 0xE goes as BIT1 BIT1 BIT1 BIT0, parity BIT1. -/
theorem test_decode_control :
    reads (.field .control [.one, .one, .one, .zero, .one, .one]) = some (.fieldControl ⟨0xE, true, true⟩) := by
  decide

theorem test_decode_length :
    reads (.field .length [.zero, .zero, .zero, .zero, .zero, .one, .one, .zero, .zero, .zero]) =
      some (.fieldLength ⟨6, false, false⟩) := by
  decide

theorem test_decode_data :
    reads (.field .data [.one, .zero, .one, .zero, .one, .zero, .one, .one, .one, .zero]) =
      some (.fieldData ⟨0xAB, true, false⟩) := by
  decide

/-- R67: a frame of 55 symbols, header fields 0 but mode, length 1, data 0x01. -/
theorem test_decode_frame :
    reads (.frame ([.start, .one] ++ List.replicate 13 .zero ++ List.replicate 14 .zero ++ List.replicate 6 .zero ++
      [.zero, .zero, .zero, .zero, .zero, .zero, .zero, .one, .one, .zero] ++
      [.zero, .zero, .zero, .zero, .zero, .zero, .zero, .one, .one, .one])) =
      some (.frame true ⟨0, false⟩ ⟨0, false, false⟩ ⟨0, false, false⟩ ⟨1, true, false⟩ [⟨1, true, true⟩]) := by
  decide

theorem test_decode_frame_short :
    rejects (.frame ([.start, .one] ++ List.replicate 33 .zero ++
      [.zero, .zero, .zero, .zero, .zero, .zero, .zero, .one, .one, .zero])) = some .notAFrame := by
  decide

/-- R75, R82: writes of the read-write and write-only registers. -/
theorem test_decode_writes :
    reads (.host 0x800003#24) = some (.wrCtrl 3) ∧ reads (.host 0x841140#24) = some (.wrOwnAddr 0x1140) ∧
    reads (.host 0x850130#24) = some (.wrPeerAddr 0x130) ∧
    reads (.host 0x860FFF#24) = some (.wrBcastAddr 0xFFF) ∧
    reads (.host 0x87000E#24) = some (.wrCtrlFlags 0xE) ∧ reads (.host 0x8F0001#24) = some (.wrCmd 1) ∧
    reads (.host 0x900001#24) = some (.wrTxbMode 1) ∧ reads (.host 0x910140#24) = some (.wrTxbMaster 0x140) ∧
    reads (.host 0x920130#24) = some (.wrTxbSlave 0x130) ∧ reads (.host 0x93000E#24) = some (.wrTxbCtrl 0xE) ∧
    reads (.host 0x940020#24) = some (.wrTxbLen 0x20) ∧ reads (.host 0xBF001F#24) = some (.wrTxbDataI 31 0x1F) := by
  decide

/-- R75, R78: writes of read-only and reserved addresses. -/
theorem test_decode_ignored_writes :
    reads (.host 0x810001#24) = some (.wrStatus 1) ∧ reads (.host 0x820002#24) = some (.wrTxResult 2) ∧
    reads (.host 0x830003#24) = some (.wrRxResult 3) ∧ reads (.host 0x880004#24) = some (.wrRegTsLo 4) ∧
    reads (.host 0x890005#24) = some (.wrRegTsHi 5) ∧ reads (.host 0xC00006#24) = some (.wrFrMode 6) ∧
    reads (.host 0xC10007#24) = some (.wrFrMaster 7) ∧ reads (.host 0xC20008#24) = some (.wrFrSlave 8) ∧
    reads (.host 0xC30009#24) = some (.wrFrCtrl 9) ∧ reads (.host 0xC4000A#24) = some (.wrFrLen 0xA) ∧
    reads (.host 0xE1000B#24) = some (.wrFrDataI 1 0xB) ∧
    reads (.host 0x8A000C#24) = some (.wrRdReserved true 0x0A 0xC) ∧
    reads (.host 0xDF000D#24) = some (.wrRdReserved true 0x5F 0xD) := by
  decide

/-- R75, R82: reads of the control, status and configuration registers. -/
theorem test_decode_reads :
    reads (.host 0x000000#24) = some .rdCtrl ∧ reads (.host 0x010000#24) = some .rdStatus ∧
    reads (.host 0x020000#24) = some .rdTxResult ∧ reads (.host 0x030000#24) = some .rdRxResult ∧
    reads (.host 0x040000#24) = some .rdOwnAddr ∧ reads (.host 0x050000#24) = some .rdPeerAddr ∧
    reads (.host 0x060000#24) = some .rdBcastAddr ∧ reads (.host 0x070000#24) = some .rdCtrlFlags ∧
    reads (.host 0x080000#24) = some .rdRegTsLo ∧ reads (.host 0x090000#24) = some .rdRegTsHi ∧
    reads (.host 0x0F0000#24) = some .rdCmd ∧ reads (.host 0x04BEEF#24) = some .rdOwnAddr := by
  decide

/-- R75, R82: reads of the frame stores and of a reserved address. -/
theorem test_decode_frame_reads :
    reads (.host 0x100000#24) = some .rdTxbMode ∧ reads (.host 0x110000#24) = some .rdTxbMaster ∧
    reads (.host 0x120000#24) = some .rdTxbSlave ∧ reads (.host 0x130000#24) = some .rdTxbCtrl ∧
    reads (.host 0x140000#24) = some .rdTxbLen ∧ reads (.host 0x200000#24) = some (.rdTxbDataI 0) ∧
    reads (.host 0x400000#24) = some .rdFrMode ∧ reads (.host 0x410000#24) = some .rdFrMaster ∧
    reads (.host 0x420000#24) = some .rdFrSlave ∧ reads (.host 0x430000#24) = some .rdFrCtrl ∧
    reads (.host 0x440000#24) = some .rdFrLen ∧ reads (.host 0x7F0000#24) = some (.rdFrDataI 31) ∧
    reads (.host 0x150000#24) = some (.wrRdReserved false 0x15 0) := by
  decide

/-- R84: the expansions as words. -/
theorem test_decode_pseudo :
    reads (.pseudo [0x8F0001#24]) = some .txgo ∧
    reads (.pseudo [0x800002#24]) = some (.ctrlset false true) ∧
    reads (.pseudo [0x840140#24, 0x850130#24, 0x860FFF#24, 0x87000E#24]) =
      some (.config 0x140 0x130 0xFFF 0xE) ∧
    reads (.pseudo [0x900001#24, 0x910140#24, 0x920130#24, 0x93000E#24, 0xA0001F#24, 0x940001#24, 0x8F0001#24]) =
      some (.send true 0x140 0x130 0xE [0x1F]) ∧
    rejects (.pseudo [0x800004#24]) = some .notAPseudo ∧
    rejects (.pseudo [0x841140#24, 0x850130#24, 0x860FFF#24, 0x87000E#24]) = some .notAPseudo := by
  decide

/-- The encoder writes the same words. -/
theorem test_encode :
    encode (.wrOwnAddr 0x1140) = .host 0x841140#24 ∧ encode (.rdFrDataI 31) = .host 0x7F0000#24 ∧
    encode (.ctrlset true false) = .pseudo [0x800001#24] ∧
    encode (.fieldControl ⟨0xE, true, false⟩) = .field .control [.one, .one, .one, .zero, .one, .zero] := by
  decide

/-- The table's own numbering: a TXGO word is TXGO, another CMD word is WR CMD (log 7). -/
theorem test_table_words :
    decodeTableWord 24 0x8F0001 = some .txgo ∧ decodeTableWord 24 0x8F0000 = some (.wrCmd 0) ∧
    decodeTableWord 24 0x800003 = some (.ctrlset true true) ∧ decodeTableWord 16 0b1111100000 = some .bit1 ∧
    decodeTableWord 48 0b11111111111111111111111111111111111111111100000 = some .start := by
  decide

/-! ## Host operations (46_host_interface.md) -/

/-- R171's worked example. -/
theorem test_wrOwnAddr_masks : (after (exec (.wrOwnAddr 0x1140) block)).ownAddr = 0x140 := by decide
theorem test_wrPeerAddr : (after (exec (.wrPeerAddr 0xF131) block)).peerAddr = 0x131 := by decide
theorem test_wrBcastAddr : (after (exec (.wrBcastAddr 0x1123) block)).bcastAddr = 0x123 := by decide
theorem test_wrCtrlFlags : (after (exec (.wrCtrlFlags 0x15) block)).ctrlFlags = 5 := by decide
theorem test_wrCtrl :
    (after (exec (.wrCtrl 0xFFFE) block)).filterEn = false ∧ (after (exec (.wrCtrl 0xFFFE) block)).errlogEn = true := by
  decide
theorem test_wrCmd_keeps_pending : (after (exec (.wrCmd 0) { block with txPending := true })).txPending = true := by
  decide
theorem test_wrTxbMode : (after (exec (.wrTxbMode 3) block)).txb.mode = true := by decide
theorem test_wrTxbMaster : (after (exec (.wrTxbMaster 0xF140) block)).txb.master = 0x140 := by decide
theorem test_wrTxbSlave : (after (exec (.wrTxbSlave 0xF130) block)).txb.slave = 0x130 := by decide
theorem test_wrTxbCtrl : (after (exec (.wrTxbCtrl 0xFE) block)).txb.ctrl = 0xE := by decide
/-- Any 8-bit length is stored; it faults only when a pass copies it (R171). -/
theorem test_wrTxbLen : (after (exec (.wrTxbLen 0x121) block)).txb.len = 0x21 := by decide
theorem test_wrTxbDataI :
    (after (exec (.wrTxbDataI 31 0x1F5) block)).txb.data[31] = 0xF5 ∧
    (after (exec (.wrTxbDataI 31 0x1F5) block)).txb.data[30] = 0 := by
  decide
theorem test_wrStatus_ignored : after (exec (.wrStatus 0xFFFF) block) = block := by decide
theorem test_wrFrDataI_ignored : after (exec (.wrFrDataI 3 0xFF) block) = block := by decide
theorem test_wrRdReserved :
    after (exec (.wrRdReserved true 0x0A 0xFFFF) block) = block ∧
    readOf (exec (.wrRdReserved false 0x0A 0xFFFF) block) = some 0 := by
  decide
/-- R172's worked example: right after reset. -/
theorem test_rdOwnAddr : readOf (exec .rdOwnAddr block) = some 0x0140 := by decide
theorem test_rdCtrl : readOf (exec .rdCtrl { block with errlogEn := true }) = some 2 := by decide
/-- R175's worked example: the ARB wait of Scenario A. -/
theorem test_rdStatus_arb : readOf (exec .rdStatus { block with phase := .arb }) = some 0x0061 := by decide
/-- R175: TX_GO and a STATUS read in the same tick. -/
theorem test_rdStatus_pending : readOf (exec .rdStatus (after (exec .txgo block))) = some 0x0002 := by decide
theorem test_rdRegTs :
    readOf (exec .rdRegTsLo { block with regTs := 0x12345678 }) = some 0x5678 ∧
    readOf (exec .rdRegTsHi { block with regTs := 0x12345678 }) = some 0x1234 := by
  decide
theorem test_rdCmd : readOf (exec .rdCmd { block with txPending := true }) = some 0 := by decide
theorem test_rdFr :
    readOf (exec .rdFrMode { block with frame := frameA }) = some 1 ∧
    readOf (exec .rdFrMaster { block with frame := frameA }) = some 0x140 ∧
    readOf (exec .rdFrSlave { block with frame := frameA }) = some 0x130 ∧
    readOf (exec .rdFrCtrl { block with frame := frameA }) = some 0xE ∧
    readOf (exec .rdFrLen { block with frame := frameA }) = some 1 ∧
    readOf (exec (.rdFrDataI 0) { block with frame := frameA }) = some 0x1F := by
  decide
theorem test_rdTxb :
    readOf (exec .rdTxbMode { block with txb := frameA }) = some 1 ∧
    readOf (exec .rdTxbMaster { block with txb := frameA }) = some 0x140 ∧
    readOf (exec .rdTxbSlave { block with txb := frameA }) = some 0x130 ∧
    readOf (exec .rdTxbCtrl { block with txb := frameA }) = some 0xE ∧
    readOf (exec .rdTxbLen { block with txb := frameA }) = some 1 ∧
    readOf (exec (.rdTxbDataI 0) { block with txb := frameA }) = some 0x1F := by
  decide
/-- R84 with Scenario A's frame. -/
theorem test_send_stages :
    (after (exec (.send true 0x140 0x130 0xE [0x1F]) block)).txb = frameA ∧
    (after (exec (.send true 0x140 0x130 0xE [0x1F]) block)).txPending = true := by
  decide
theorem test_config : (after (exec (.config 0x130 0x140 0xFFF 3) block)).ctrlFlags = 3 := by decide
theorem test_ctrlset : (after (exec (.ctrlset true false) block)).filterEn = true := by decide

/-! ## One tick of the block -/

/-- R174: TX_GO in IDLE enters ARB in the same tick. -/
theorem test_tick_takes_pending : (tick true 0 { block with txPending := true }).phase = .arb := by decide
/-- R193: TXB_LEN above 32. -/
theorem test_tick_overflow :
    (tick false 0 { block with txPending := true, txb := frameLen 33 }).fault = some .lengthOverflow ∧
    (tick false 0 { block with txPending := true, txb := frameLen 32 }).fault = none := by
  decide
/-- R93 with WDT_KICK_INTERVAL = 4. -/
theorem test_tick_kicks :
    (tick false 0 { block with wdtcnt := 3 }).events = [(0, .wdtKick)] ∧
    (tick false 0 { block with wdtcnt := 2 }).events = [] := by
  decide
/-- R158's worked example. -/
theorem test_control_parity_error :
    (tick false 7 (rxParity .control 9 { block with parity := true, forme := true, registered := true })).rxResult =
      0x0054 ∧
    (tick false 7 (rxParity .control 9 { block with parity := true, forme := true, registered := true })).registered =
      false := by
  decide
/-- R194: a length above 32 with a bad parity bit is a parity error, with a good one the fault. -/
theorem test_length_priority :
    (tick false 7 (rxParity .length 9 { block with parity := true, frame := frameLen 33 })).rxResult = 0x0064 ∧
    (tick false 7 (rxParity .length 5 { block with parity := true, frame := frameLen 33 })).fault =
      some .lengthOverflow := by
  decide
/-- R206: reset discards the tick's operations and keeps no pass. -/
theorem test_reset_tick :
    (nextTick ⟨true, true, [0x800003#24], 5⟩ { senderA with registered := true }).busOut = false ∧
    (nextTick ⟨true, true, [0x800003#24], 5⟩ { senderA with registered := true }).filterEn = false ∧
    (nextTick ⟨true, true, [0x800003#24], 5⟩ { senderA with registered := true }).registered = false := by
  decide
/-- R163, Scenario B's probe [0x10, 0xAB, 0x01] and its reply. -/
theorem test_probe_reply :
    (respond 0xAB block).frame.data.toList.take 7 = [0x11, 0x00, 0x01, 0x02, 0x85, 0xAB, 0x00] ∧
    (respond 0xAB block).frame.slave = 0x130 ∧ (respond 0xAB block).rxResult = 0x0003 := by
  decide
/-- R165: with the filter on, a Normal frame to the broadcast address is filtered, a Broadcast one surfaced. -/
theorem test_filter :
    (conclude { block with filterEn := true, frame := { FrameBuf.zero with mode := true, slave := 0xFFF } }).rxResult = 2 ∧
    (conclude { block with filterEn := true, frame := { FrameBuf.zero with mode := false, slave := 0xFFF } }).rxResult =
      1 := by
  decide

/-! ## Wire rows -/

/-- R114's values, from IDLE. -/
theorem test_start_window :
    (drive (List.replicate 39 true ++ [false]) block).rxResult = 0x0015 ∧
    (drive (List.replicate 40 true ++ [false]) block).phase = .rxWaithigh ∧
    (drive (List.replicate 46 true ++ [false]) block).phase = .rxWaithigh ∧
    (drive (List.replicate 47 true ++ [false]) block).rxResult = 0x0015 := by
  decide
theorem test_start : (after (exec .start block)).elem = .el .mode .val ∧ (after (exec .start block)).time = 47 := by
  decide
/-- R116: a bit seen from IDLE is no start. -/
theorem test_bit1_idle : (after (exec .bit1 block)).rxResult = 0x0015 := by decide
theorem test_bit0_idle : (after (exec .bit0 block)).rxResult = 0x0015 := by decide
/-- 95_test_vectors.md 2.3: W = 7 is a 1 and W = 8 a 0. -/
theorem test_mode_widths :
    (drive (List.replicate 7 true ++ [false]) (rxField .mode block)).frame.mode = true ∧
    (drive (List.replicate 8 true ++ [false]) (rxField .mode block)).frame.mode = false := by
  decide
theorem test_fieldMode : (after (exec (.fieldMode true) (rxField .mode block))).frame.mode = true := by decide
theorem test_fieldMaster :
    (after (exec (.fieldMaster ⟨0x130, true⟩) (rxField .master block))).frame.master = 0x130 := by
  decide +kernel
/-- R151: a wrong parity bit, RX_RESULT 0x0034 in the step that decodes it. -/
theorem test_fieldMaster_parity :
    (after (exec (.fieldMaster ⟨0x130, false⟩) (rxField .master block))).rxResult = 0x0034 := by
  decide +kernel
theorem test_fieldSlave_forme :
    (after (exec (.fieldSlave ⟨0x140, false, true⟩) (rxField .slave block))).forme = true ∧
    (after (exec (.fieldSlave ⟨0x130, true, true⟩) (rxField .slave block))).forme = false := by
  decide +kernel
theorem test_fieldControl : (after (exec (.fieldControl ⟨0xE, true, true⟩) (rxField .control block))).frame.ctrl = 0xE := by
  decide
theorem test_fieldLength : (after (exec (.fieldLength ⟨1, true, false⟩) (rxField .length block))).elem = .el .data .val := by
  decide +kernel
/-- R157, R166: the last data field of an unfiltered frame. -/
theorem test_fieldData_last :
    (after (exec (.fieldData ⟨0x1F, true, false⟩) (rxField .data { block with frame := frameLen 1 }))).rxResult = 1 := by
  decide +kernel
/-- R139's code: nobody acknowledges the slave slot. -/
theorem test_slot_nak :
    (after (exec .ackSlotNotAcked (openSlot { senderA with elem := .el .slave .ack }))).txResult = 0x0042 := by
  decide
theorem test_slot_acked :
    (after (exec .ackSlotAcked (openSlot { senderA with elem := .el .slave .ack }))).elem = .el .control .val := by
  decide
/-- R125: W = 7 is not acknowledged, W = 8 is. -/
theorem test_slot_widths :
    (drive (List.replicate 7 true ++ List.replicate 3 false) (openSlot { senderA with elem := .el .slave .ack })).phase =
      .idle ∧
    (drive (List.replicate 8 true ++ List.replicate 2 false) (openSlot { senderA with elem := .el .slave .ack })).phase =
      .txBit := by
  decide
/-- R126: a stretch to W = 12 makes a slot of 13 ticks. -/
theorem test_slot_stretched :
    (drive (List.replicate 12 true) (openSlot { senderA with elem := .el .slave .ack })).phase = .txAck ∧
    (drive (List.replicate 12 true ++ [false]) (openSlot { senderA with elem := .el .slave .ack })).phase = .txBit := by
  decide
/-- R129, R130: the addressed receiver drives slot ticks 1 to 8. -/
theorem test_slot_stretch :
    busTrace (List.replicate 10 true) (rxSlot .control { block with forme := true }) =
      [false, true, true, true, true, true, true, true, true, false] := by
  decide
/-- R118's worked example: ten low samples. -/
theorem test_arb :
    (drive (List.replicate 9 false) { block with phase := .arb }).phase = .arb ∧
    (drive (List.replicate 10 false) { block with phase := .arb }).phase = .txBit := by
  decide
/-- R105's worked example: T_REM = 10, a 0 with W = 8 enters RX_REMAIN with CNT = 9. -/
theorem test_remain :
    (tick false 0 { rxField .master { block with par := { params0 with tRem := 10 } } with
      phase := .rxMeas, cnt := 8 }).phase = .rxRemain ∧
    (tick false 0 { rxField .master { block with par := { params0 with tRem := 10 } } with
      phase := .rxMeas, cnt := 8 }).cnt = 9 := by
  decide
/-- R190: with EDGE_TIMEOUT = 60, 60 low samples end the wait. -/
theorem test_timeout :
    (drive (List.replicate 59 false) (rxField .control block)).phase = .rxWaithigh ∧
    (drive (List.replicate 60 false) (rxField .control block)).rxResult = 0x0056 := by
  decide

/-- R80, R81: a frame with no data byte, 487 ticks, received and surfaced. -/
theorem test_frame_len0 :
    (after (exec (.frame true ⟨0x130, true⟩ ⟨0x140, false, true⟩ ⟨0xE, true, true⟩ ⟨0, false, true⟩ []) block)).rxResult =
      0x0001 := by
  decide +kernel

/-- R79, R66: a pulse of 8 high ticks is no row's symbol, and a receiver takes it as a 0: the bit is not toggled into
PAR. -/
theorem test_step_odd_pulse :
    let t := after (step { rxField .master block with
      feed := [.code (.symbol false (List.replicate 8 true ++ [false, false]))] })
    t.nbits = 11 ∧ t.shift = 0 ∧ t.parity = false ∧ t.feed = [] := by
  decide +kernel

/-- R85: a CONFIG group with own = 0x1140 is no row's and runs as its words, the extra bit dropped. -/
theorem test_step_wide_config :
    let t := after (step { block with
      feed := [.code (.pseudo [0x841140#24, 0x850130#24, 0x860FFF#24, 0x87000E#24])] })
    t.ownAddr = 0x140 ∧ t.peerAddr = 0x130 ∧ t.opTick = some 0 := by
  decide +kernel

/-- R83 and 95_test_vectors.md section 0: TICKS 49 after an operation ends that tick and lets 49 more pass; at the
program's start it lets 49 pass. -/
theorem test_ticks_counts_whole_ticks :
    ticksToPass 49 (after (step { block with feed := [.code (.host 0x920130#24)] })) = 50 ∧ ticksToPass 49 block = 49 ∧
    ticksToPass 49 (after (exec .bit1 block)) = 49 := by
  decide +kernel

/-! ## States that meet the hypotheses of the statements, one theorem per statement (each clause at a
boundary value) -/

/-- A block in ARB, its waits unbounded. -/
def other : State := { block with par := { params0 with edgeTimeout := none }, phase := .arb, registered := true }

/-- A listening block whose waits are unbounded. -/
def other0 : State := { block with par := { params0 with edgeTimeout := none } }

/-- A listening block with its address filter on. -/
def filtering : State := { block with filterEn := true }

/-- A sender of a Broadcast frame of 32 bytes that omits the slots. -/
def omitter : State :=
  { senderA with frame := frameLen 32, par := { params0 with bcastAckSlot := .skip } }

/-- A schedule with one input of each kind, and FAULT empty. -/
def scheduled (i : Input) : State := { block with feed := [i] }

/-- A state stopped by a fault. -/
def stopped : State := { block with fault := some .lengthOverflow }

/-- A receiver with the addressed flag set, in the slot of a field. -/
def rxMine (f : FieldCode) : State := rxSlot f { block with forme := true }

theorem test_witness_HostWritesStoreImplementedBits : block.fault = none := by decide
theorem test_witness_ReadOnlyAndReservedAccess :
    block.fault = none ∧ reservedAddr 0x0A = true ∧ reservedAddr 0x0E = true ∧ reservedAddr 0x15 = true ∧
    reservedAddr 0x1F = true ∧ reservedAddr 0x45 = true ∧ reservedAddr 0x5F = true := by
  decide
theorem test_witness_HostReadsPutOutTheRegister : senderA.fault = none := by decide
theorem test_witness_TxGoSetsPending :
    block.fault = none ∧ (0xFFFF : Reg16).getLsbD 0 = true ∧ (0xFFFE : Reg16).getLsbD 0 = false := by
  decide
theorem test_witness_PseudoInstructionsWriteTheirRegisters :
    block.fault = none ∧ WellFormed (.send true 0x140 0x130 0xE (List.replicate 32 0xFF)) = true ∧
    WellFormed (.send false 0 0 0 []) = true := by
  decide
theorem test_witness_PseudoInstructionsExpand :
    WellFormed (.send true 0x140 0x130 0xE [0x1F]) = true ∧
    (expansion (.send true 0x140 0x130 0xE [0x1F])).isSome = true ∧ (expansion .txgo).isSome = true ∧
    (expansion (.ctrlset true true)).isSome = true ∧ (expansion (.config 1 2 3 4)).isSome = true := by
  decide
theorem test_witness_HostWordsRunHostReadAndWrite : block.fault = none := by decide
theorem test_witness_HostWriteReadBack :
    rwMask 0x3F#7 = some 0x00FF ∧ rwMask 0x20#7 = some 0x00FF ∧ rwMask 0x00#7 = some 3 ∧ rwMask 0x07#7 = some 0xF ∧
    rwMask 0x01#7 = none ∧ rwMask 0x7F#7 = none := by
  decide
theorem test_witness_HostOperationsLeaveThePassAlone :
    isHostRow (.wrTxbDataI 31 0xFF) = true ∧ exec (.wrTxbDataI 31 0xFF) senderA = .next (after (exec (.wrTxbDataI 31 0xFF) senderA)) :=
  ⟨rfl, rfl⟩
theorem test_witness_DecodeOfEncode :
    WellFormed (.wrRdReserved false 0x5F 0xFFFF) = true ∧
    WellFormed (.frame true ⟨0x140, false⟩ ⟨0x130, true, false⟩ ⟨0xE, true, false⟩ ⟨1, true, false⟩ [⟨0x1F, true, false⟩]) =
      true := by
  decide
theorem test_witness_DecodedReencodes :
    decode (.host 0x04BEEF#24) = .ok .rdOwnAddr ∧ decode (.symbol true bit1Wave) = .ok .ackSlotNotAcked ∧
    decode (.pseudo [0x8F0001#24]) = .ok .txgo :=
  ⟨rfl, rfl, rfl⟩
theorem test_witness_StepRunsTheDecodedInstruction :
    block.fault = none ∧ (scheduled (.code (.host 0x841140#24))).feed = [.code (.host 0x841140#24)] ∧
    decode (.host 0x841140#24) = .ok (.wrOwnAddr 0x1140) ∧
    (scheduled (.code (.pseudo []))).feed = [.code (.pseudo [])] ∧ decode (.pseudo []) = .error .notAPseudo ∧
    decode (.pseudo [0x841140#24, 0x8F0001#24]) = .error .notAPseudo ∧
    decode (.symbol true startWave) = .error .notASymbol ∧ decode (.field .mode []) = .error .notAField ∧
    decode (.frame [.start]) = .error .notAFrame ∧ decodeTableWord 24 0x8F0001 = some .txgo :=
  ⟨rfl, rfl, rfl, rfl, rfl, rfl, rfl, rfl, rfl, by decide⟩
theorem test_witness_ScheduledTicksPass :
    (scheduled (.cycle ⟨false, true, [0x8F0001#24], 7⟩)).fault = none ∧
    (scheduled (.cycle ⟨false, true, [0x8F0001#24], 7⟩)).feed = [.cycle ⟨false, true, [0x8F0001#24], 7⟩] ∧
    block.feed = [] ∧ (scheduled (.ticks 0)).feed = [.ticks 0] ∧ (scheduled (.ticks 0)).opTick ≠ some 0 ∧
    (scheduled (.wait .wdtKick)).feed = [.wait .wdtKick] := by
  decide
theorem test_witness_TicksPassesItsTicks :
    (scheduled (.ticks 1)).fault = none ∧ (scheduled (.ticks 1)).feed = [.ticks 1] ∧
    (scheduled (.ticks 1)).opTick ≠ some (scheduled (.ticks 1)).time ∧
    (freeTicks 1 { scheduled (.ticks 1) with feed := [] }).fault = none ∧
    ({ scheduled (.ticks 0) with opTick := some 0 } : State).opTick = some (scheduled (.ticks 0)).time ∧
    (freeTicks 1 { scheduled (.ticks 0) with feed := [], opTick := some 0 }).fault = none := by
  refine ⟨rfl, rfl, by decide, ?_, rfl, ?_⟩ <;>
    cases h : Config.extDrive 0 <;> simp [freeTicks, List.range, List.range.loop, scheduled, drive, h, block, State.resetWith] <;>
    rfl
theorem test_witness_ResetTickGivesTheResetState :
    (scheduled (.cycle ⟨true, true, [], 7⟩)).feed = [.cycle ⟨true, true, [], 7⟩] ∧
    (scheduled (.cycle ⟨true, true, [], 7⟩)).fault = none ∧
    ({ stopped with feed := [.cycle ⟨true, true, [], 7⟩] } : State).fault = some .lengthOverflow := by
  decide
theorem test_witness_FaultSetHasNoStep : stopped.fault = some .lengthOverflow := by decide
theorem test_witness_LengthOverflowExactlyWhereListed :
    block.fault = none ∧ (tick false 0 { block with txPending := true, txb := frameLen 33 }).fault = some .lengthOverflow ∧
    (tick false 0 { block with txPending := true, txb := frameLen 32 }).fault = none := by
  decide
theorem test_witness_SymbolHeldForItsPeriod :
    senderA.fault = none ∧ senderA.phase = .txBit ∧ senderA.cnt = 0 ∧ senderA.busOut = true ∧
    0 < senderA.hold.toNat ∧ senderA.hold.toNat < senderA.per.toNat ∧
    (List.replicate 46 true).length + 1 = senderA.per.toNat := by
  decide
theorem test_witness_TransmittedFieldIsItsEncoding :
    senderA.fault = none ∧ senderA.par.SourceTiming ∧ fieldValue senderA.frame senderA.didx .master = some 0x140 ∧
    (List.replicate 130 true).length = 10 * (sentSymbols .master 0x140).length ∧
    fieldValue senderA.frame 31 .data = some 0 := by
  decide +kernel
theorem test_witness_SenderIgnoresTheLine : senderA.phase = .txBit := by decide
theorem test_witness_FrameSentAcknowledged :
    TxAtStart senderA ∧ senderA.frame.len.toNat ≤ maxData ∧ [(⟨0x1F, true, false⟩ : AckField 8)].length = senderA.frame.len.toNat ∧
    AllAcked ⟨0, true, false⟩ ⟨0, true, false⟩ ⟨9, true, false⟩ [⟨0x1F, true, false⟩] ∧
    (senderA.par.bcastAckSlot = .emit ∨ senderA.frame.mode ≠ senderA.par.modeBcastBit) ∧
    TxAtStart { senderA with frame := frameLen 1 } ∧ (frameLen 1).mode = senderA.par.modeBcastBit ∧
    senderA.par.bcastAckSlot = .emit := by
  decide
theorem test_witness_BroadcastFrameOmittingSlots :
    TxAtStart omitter ∧ omitter.frame.len.toNat ≤ maxData ∧ omitter.par.bcastAckSlot = .skip ∧
    omitter.frame.mode = omitter.par.modeBcastBit ∧
    (List.replicate 3337 true).length = 487 + 100 * 32 - 10 * (3 + 32) ∧ omitter.frame.len.toNat = 32 := by
  decide +kernel
theorem test_witness_FrameTransmittedBitExactly :
    TxAtStart { senderA with frame := frameLen 32 } ∧ (frameLen 32).len.toNat ≤ maxData ∧
    (List.replicate 32 (⟨0, false, false⟩ : AckField 8)).length = (frameLen 32).len.toNat ∧
    AllAcked ⟨0, false, false⟩ ⟨0, false, false⟩ ⟨0, false, false⟩ (List.replicate 32 ⟨0, false, false⟩) ∧
    (senderA.par.bcastAckSlot = .emit ∨ (frameLen 32).mode ≠ senderA.par.modeBcastBit) := by
  decide
theorem test_witness_FieldRowAcknowledgedAtSender :
    senderA.fault = none ∧ senderA.par.SourceTiming ∧ senderA.par.bcastAckSlot = .emit ∧ senderA.frame.len ≠ 0 ∧
    (frameLen 32).mode = senderA.par.modeBcastBit ∧
    ({ senderA with frame := frameLen 32, didx := 30 } : State).didx.toNat + 1 < (frameLen 32).len.toNat ∧
    (30#8).toNat + 1 < maxData ∧ ∃ x : AckField 8, x.k = false ∧ Instr.fieldData ⟨5, false, false⟩ = .fieldData x :=
  ⟨rfl, by decide, rfl, by decide, rfl, by decide, by decide, ⟨5, false, false⟩, rfl, rfl⟩
theorem test_witness_FieldRowNotAcknowledgedAtSender :
    senderA.fault = none ∧ senderA.par.SourceTiming ∧ senderA.frame.mode ≠ senderA.par.modeBcastBit ∧
    (31#8).toNat < maxData ∧ (∃ x : AckField 8, x.k = true ∧ Instr.fieldData ⟨5, false, true⟩ = .fieldData x) ∧
    (∃ x : AckField 12, x.k = true ∧ Instr.fieldSlave ⟨5, false, true⟩ = .fieldSlave x) :=
  ⟨rfl, by decide, by decide, by decide, ⟨_, rfl, rfl⟩, ⟨_, rfl, rfl⟩⟩
theorem test_witness_SlotlessFieldRowAtSender : senderA.fault = none ∧ senderA.par.SourceTiming := by decide
theorem test_witness_BusFreeThenStartBit :
    other.fault = none ∧ other.par.SourceTiming ∧ other.phase = .arb ∧ other.busOut = false ∧ other.cnt.toNat < 10 ∧
    ({ other with cnt := 9 } : State).cnt.toNat < 10 := by
  decide
theorem test_witness_BusyLineKeepsArbitrating :
    other.fault = none ∧ other.par.SourceTiming ∧ other.phase = .arb ∧ other.busOut = false ∧
    neverFree other.cnt.toNat (List.replicate 9 false ++ [true] ++ List.replicate 9 false) = true := by
  decide
theorem test_witness_PendingFrameStartsElevenTicksLater :
    ({ block with txPending := true, txb := frameLen 32 } : State).fault = none ∧ block.par.SourceTiming ∧
    block.phase = .idle ∧ block.busOut = false ∧ (frameLen 32).len.toNat ≤ maxData := by
  decide
theorem test_witness_IdleTakesPendingThenPolls :
    block.phase = .idle ∧ block.busOut = false ∧ block.txPending = false ∧
    ({ block with txPending := true } : State).txPending = true := by
  decide
theorem test_witness_SenderSlotDecision :
    ({ senderA with elem := .el .data .ack } : State).elem = .el .data .ack ∧ senderA.fault = none ∧
    senderA.par.SourceTiming := by
  decide
theorem test_witness_AddressedReceiverStretchesSlot :
    (rxMine .slave).fault = none ∧ (rxMine .slave).par.SourceTiming ∧ (rxMine .slave).phase = .rxWaithigh ∧
    (rxMine .slave).busOut = false ∧ (rxMine .slave).elem = .el .slave .ack ∧ (rxMine .slave).forme = true ∧
    (List.replicate 8 false).length = 8 := by
  decide
theorem test_witness_DiscardedSlotMovesOn :
    (rxSlot .length { block with frame := frameLen 1 }).fault = none ∧
    (rxSlot .length block).par.SourceTiming ∧ (rxSlot .length block).phase = .rxWaithigh ∧
    (rxSlot .length block).busOut = false ∧ (rxSlot .length block).forme = false ∧
    nextElem (.el .length .ack) 5 (frameLen 1).len = some (.el .data .val, 0) ∧
    nextElem (.el .data .ack) 30 32 = some (.el .data .val, 31) := by
  decide
theorem test_witness_StartWindowIsHalfOpen :
    Listening block ∧ NotCutOff block.par 1 ∧ NotCutOff block.par 46 ∧ NotCutOff block.par 59 ∧
    Listening other0 ∧ NotCutOff other0.par 70000 :=
  ⟨by decide, .inl (by decide), .inl (by decide), .inr fun _ h => by cases h; decide, by decide,
    .inr fun _ h => by cases h⟩
theorem test_witness_StartSymbolOpensReceivePass : Listening block := by decide
theorem test_witness_PulseDecodesByItsWidth :
    (rxField .master block).fault = none ∧ (rxField .master block).par.SourceTiming ∧
    (rxField .master block).phase = .rxWaithigh ∧ (rxField .master block).busOut = false ∧
    (rxField .master block).elem = .el .master .val ∧ 2 ≤ (rxField .master block).nbits.toNat ∧
    NotCutOff (rxField .master block).par 59 :=
  ⟨rfl, by decide, rfl, rfl, rfl, by decide, .inr fun _ h => by cases h; decide⟩
theorem test_witness_ModeAndMasterReceived :
    RxAt .mode (rxField .mode block) ∧ RxAt .master (rxField .master block) ∧
    (⟨0x130, true⟩ : ParField 12).p = parityOf (0x130 : Addr12) := by
  decide
theorem test_witness_SlaveFieldReceived :
    RxAt .slave (rxField .slave block) ∧ (⟨0x140, false, true⟩ : AckField 12).p = parityOf (0x140 : Addr12) := by
  decide
theorem test_witness_ControlLengthDataReceived :
    RxAt .control (rxField .control block) ∧ RxAt .length (rxField .length block) ∧
    RxAt .data (rxField .data { block with frame := frameLen 32, didx := 30 }) ∧
    (⟨32, true, false⟩ : AckField 8).p = parityOf (32 : Byte) ∧ (32 : Byte).toNat ≤ maxData ∧ (1 : Byte) ≠ 0 ∧
    (30#8).toNat = 30 ∧ 30 + 1 < (frameLen 32).len.toNat := by
  decide
theorem test_witness_OverlongLengthStopsTheModel :
    RxAt .length (rxField .length block) ∧ (⟨33, false, true⟩ : AckField 8).p = parityOf (33 : Byte) ∧
    maxData < (33 : Byte).toNat := by
  decide
theorem test_witness_ParityErrorEndsThePass :
    (rxParity .control 9 { block with parity := true }).fault = none ∧
    (rxParity .control 9 block).phase = .rxMeas ∧ (rxParity .control 9 block).busOut = false ∧
    (rxParity .control 9 block).elem = .el .control .par ∧
    decide ((rxParity .control 7 block).cnt.toNat ≤ block.par.tThresh) ≠ block.parity := by
  decide
theorem test_witness_FrameReceivedInFull :
    Listening block ∧
    WellFormed (.frame true ⟨0x130, true⟩ ⟨0x140, false, true⟩ ⟨0xE, true, true⟩ ⟨1, true, true⟩ [⟨0x1F, true, true⟩]) = true ∧
    ParityRight ⟨0x130, true⟩ ⟨0x140, false, true⟩ ⟨0xE, true, true⟩ ⟨1, true, true⟩ [⟨0x1F, true, true⟩] ∧
    (1 : Byte).toNat ≤ maxData ∧
    probeFor block (frameOf true ⟨0x130, true⟩ ⟨0x140, false, true⟩ ⟨0xE, true, true⟩ ⟨1, true, true⟩ [⟨0x1F, true, true⟩]) =
      false ∧
    (let fr := frameOf true ⟨0x130, true⟩ ⟨0x131, false, true⟩ ⟨0xE, true, true⟩ ⟨0, false, true⟩ []
     Listening filtering ∧ ParityRight ⟨0x130, true⟩ ⟨0x131, false, true⟩ ⟨0xE, true, true⟩ ⟨0, false, true⟩ [] ∧
      probeFor filtering fr = false ∧ surfacedBy filtering fr = false ∧ surfacedBy block fr = true) := by
  decide
theorem test_witness_ProbeAnswered :
    Listening block ∧
    ParityRight ⟨0x130, true⟩ ⟨0x140, false, true⟩ ⟨0, false, true⟩ ⟨3, false, true⟩
      [⟨0x10, true, true⟩, ⟨0xAB, true, true⟩, ⟨0x01, true, true⟩] ∧
    (0x140 : Addr12) = block.ownAddr ∧ (0x10 : Byte) = block.par.probeOpcode ∧ (0x01 : Byte) = block.par.probeTerm := by
  decide
theorem test_witness_BoundedWaitsTimeOut :
    Listening { block with par := { params0 with edgeTimeout := some 47 } } ∧
    (rxSlot .data block).par.edgeTimeout = some 60 ∧ (rxSlot .data block).fault = none ∧
    (rxSlot .data block).par.SourceTiming ∧ (rxSlot .data block).elem = .el .data .ack ∧
    (rxSlot .data block).busOut = false ∧ (rxSlot .data block).phase = .rxWaithigh ∧ (rxSlot .data block).cnt = 0 ∧
    (rxParity .data 1 block).phase = .rxMeas ∧ (rxParity .data 1 block).cnt = 1 ∧
    (rxParity .data 1 block).par.edgeTimeout = some 60 := by
  decide
theorem test_witness_RemainWaitsOut :
    ({ block with phase := .rxRemain, cnt := 8 } : State).fault = none ∧
    ({ block with phase := .rxRemain, cnt := 8 } : State).cnt.toNat < block.par.tRem ∧ block.par.tRem < 65536 ∧
    [true].length = block.par.tRem - (8#16).toNat := by
  decide
theorem test_witness_ResponderPassEndRegisters :
    (tick true 0 { openSlot { senderA with elem := .el .slave .ack, respActive := true } with meas := false, cnt := 9 }).phase =
      .idle := by
  decide
theorem test_witness_RegistrationChangesOnlyWhereListed :
    (tick false 7 (rxParity .control 9 { block with parity := true, forme := true, registered := true })).registered =
      false ∧
    (tick false 7 { rxMine .control with elem := .el .length .ack, phase := .rxAckdrive, cnt := 8 }).registered = true := by
  decide
theorem test_witness_TicksLeaveHostRegisters :
    isHostRow .bit1 = false ∧ exec .bit1 block = .next (after (exec .bit1 block)) :=
  ⟨rfl, rfl⟩
theorem test_witness_TransmitPassKeepsFrame :
    senderA.phase = .txBit ∧ other.phase = .arb ∧ (openSlot senderA).phase = .txAck := by decide
theorem test_witness_WireRowsTakeTheirPeriods :
    isHostRow (.fieldMode true) = false ∧ block.fault = none ∧ block.par.SourceTiming := by decide
theorem test_witness_QuietIdleKicksEveryInterval :
    block.fault = none ∧ block.phase = .idle ∧ block.busOut = false ∧ block.txPending = false ∧
    ({ block with wdtcnt := 3 } : State).wdtcnt.toNat < block.par.wdtKickInterval.toNat := by
  decide
theorem test_witness_InvariantKeptByStep :
    Inv block ∧ Inv senderA ∧ step block = .next (after (step block)) :=
  ⟨by decide, by decide, rfl⟩
theorem test_witness_NodesSampleOneLevel :
    senderA ∈ [block, senderA, stopped] ∧ busLevel false [block, senderA, stopped] = true ∧
    (true = true ↔ false = true ∨ ∃ n ∈ [block, senderA, stopped], n.busOut = true) ∧ senderA.fault = none ∧
    stopped.fault ≠ none := by
  decide

/-- R200: on a line that only the other block drives, a listening block opens a start candidate. -/
theorem test_bus_tick_shares_level : (busTick false 0 [block, senderA]).map (·.phase) = [.startMeas, .txBit] := by
  decide
theorem test_witness_LockstepCarriesTheAnd :
    senderA.fault = none ∧ senderA.par = block.par ∧ senderA.par.SourceTiming ∧
    fieldValue frameA 0 .data = some 0x1F ∧ fieldValue (frameLen 1) 0 .data = some 0 := by
  decide

end Sys2Proof.Tests
end

section
/-! What no arm of the tick writes, and what it only adds to: the host's registers, the parameters and the model's own
records. One lemma per operation of the block, for every state; the statements about ticks and wire rows and the
invariant are read off the one about `arm`. -/

namespace Sys2Proof.Machine

/-! ## The part of the state that no arm writes -/

/-- The fields that only the host, the watchdog or the passing of the tick itself writes, TX_PENDING apart
(10_state.md R32, R33, 46_host_interface.md R179). -/
structure HostSide where
  par : Params
  txb : FrameBuf
  ownAddr : Addr12
  peerAddr : Addr12
  bcastAddr : Addr12
  ctrlFlags : Nibble
  filterEn : Bool
  errlogEn : Bool
  txPending : Bool
  wdtcnt : BitVec 16
  time : Nat
  feed : List Input
  opTick : Option Nat
  reads : List (Nat × Reg16)

/-- The host's side of a state. -/
def hostSide (s : State) : HostSide where
  par := s.par
  txb := s.txb
  ownAddr := s.ownAddr
  peerAddr := s.peerAddr
  bcastAddr := s.bcastAddr
  ctrlFlags := s.ctrlFlags
  filterEn := s.filterEn
  errlogEn := s.errlogEn
  txPending := s.txPending
  wdtcnt := s.wdtcnt
  time := s.time
  feed := s.feed
  opTick := s.opTick
  reads := s.reads

/-- From s to t the block has left the host's side alone, has only appended events, and has written no result code
but those of 30_encoding.md R71 and R72. -/
structure ArmKeeps (s t : State) : Prop where
  host : hostSide t = hostSide s
  events : s.events <+: t.events
  txResult : resultLegal 3 s.txResult = true → resultLegal 3 t.txResult = true
  rxResult : resultLegal 6 s.rxResult = true → resultLegal 6 t.rxResult = true

namespace ArmKeeps

variable {s t u : State}

theorem trans (h : ArmKeeps s t) (h' : ArmKeeps t u) : ArmKeeps s u where
  host := h'.host.trans h.host
  events := h.events.trans h'.events
  txResult := h'.txResult ∘ h.txResult
  rxResult := h'.rxResult ∘ h.rxResult

/-- An update of sequencing, datapath and frame fields only. -/
theorem of_eq (host : hostSide t = hostSide s) (events : t.events = s.events) (tx : t.txResult = s.txResult)
    (rx : t.rxResult = s.rxResult) : ArmKeeps s t where
  host := host
  events := events ▸ List.prefix_rfl
  txResult := by rw [tx]; exact id
  rxResult := by rw [rx]; exact id

theorem refl (s : State) : ArmKeeps s s := of_eq rfl rfl rfl rfl

/-- An operation made after an update of sequencing, datapath and frame fields only. -/
theorem after (h : ArmKeeps t u) (host : hostSide t = hostSide s) (events : t.events = s.events)
    (tx : t.txResult = s.txResult) (rx : t.rxResult = s.rxResult) : ArmKeeps s u :=
  (of_eq host events tx rx).trans h

end ArmKeeps

/-! ## The result words -/

/-- A result word is legal exactly where its KIND is one that is written (30_encoding.md R73). -/
theorem resultLegal_resultWord (top : Nat) (kind : BitVec 4) (f : FieldCode) (i : Byte) :
    resultLegal top (resultWord kind f i) = decide (kind.toNat ≤ top) := by
  have hk : (resultWord kind f i).extractLsb' 0 4 = kind := by
    apply BitVec.eq_of_getLsbD_eq
    intro j hj
    simp only [resultWord, BitVec.getLsbD_extractLsb', BitVec.getLsbD_append]
    simp [hj]
  have h7 : (resultWord kind f i).getLsbD 7 = false := by
    simp only [resultWord, BitVec.getLsbD_append]
    simp
  simp only [resultLegal, hk, h7]
  simp

theorem resultLegal_tx (k : TxKind) (f : FieldCode) (i : Byte) :
    resultLegal 3 (resultWord (txKindNum k) f i) = true := by
  rw [resultLegal_resultWord]
  cases k <;> decide

theorem resultLegal_rx (k : RxKind) (f : FieldCode) (i : Byte) :
    resultLegal 6 (resultWord (rxKindNum k) f i) = true := by
  rw [resultLegal_resultWord]
  cases k <;> decide

theorem resultLegal_zero (top : Nat) : resultLegal top 0 = true := by simp [resultLegal]

/-! ## The shared operations -/

variable (s : State)

theorem emit_keeps (es : List Event) : ArmKeeps s (emit es s) := ⟨rfl, List.prefix_append _ _, id, id⟩

theorem raise_keeps (r : Fault) : ArmKeeps s (raise r s) := .of_eq rfl rfl rfl rfl

theorem rxEnd_keeps (k : RxKind) (f : FieldCode) (i : Byte) : ArmKeeps s (rxEnd k f i s) :=
  ⟨rfl, List.prefix_append _ _, id, fun _ => resultLegal_rx k f i⟩

theorem txEnd_keeps (k : TxKind) (f : FieldCode) (i : Byte) (ts : Stamp) : ArmKeeps s (txEnd k f i ts s) :=
  ⟨rfl, List.prefix_append _ _, fun _ => resultLegal_tx k f i, id⟩

theorem encodeStart_keeps : ArmKeeps s (encodeStart s) := .of_eq rfl rfl rfl rfl

theorem encodeParity_keeps : ArmKeeps s (encodeParity s) := .of_eq rfl rfl rfl rfl

theorem sendNextBit_keeps : ArmKeeps s (sendNextBit s) := .of_eq rfl rfl rfl rfl

theorem encodeWord_keeps (f : FieldCode) : ArmKeeps s (encodeWord f s) := by
  unfold encodeWord
  split
  · exact (sendNextBit_keeps _).after rfl rfl rfl rfl
  · exact raise_keeps s _

theorem accumulateBit_keeps (b : Bool) : ArmKeeps s (accumulateBit b s) := .of_eq rfl rfl rfl rfl

/-! ## The receive pass -/

theorem respond_keeps (token : Byte) : ArmKeeps s (respond token s) :=
  ⟨rfl, List.prefix_append _ _, fun _ => resultLegal_zero 3, fun _ => resultLegal_rx .responded .none 0⟩

theorem conclude_keeps : ArmKeeps s (conclude s) := by
  obtain ⟨_, h⟩ | ⟨_, _, h⟩ | ⟨_, _, h⟩ := conclude_cases s <;> rw [h]
  · exact respond_keeps s _
  · exact .trans (rxEnd_keeps s _ _ _) (emit_keeps _ _)
  · exact rxEnd_keeps s _ _ _

theorem rxFinish_keeps (ts : Stamp) : ArmKeeps s (rxFinish ts s) :=
  (conclude_keeps (register ts s)).after rfl rfl rfl rfl

theorem enterElem_keeps (e : Elem) (d : Byte) : ArmKeeps s (enterElem e d s) := by
  unfold enterElem
  split <;> exact .of_eq rfl rfl rfl rfl

theorem advanceRx_keeps : ArmKeeps s (advanceRx s).1 := by
  unfold advanceRx
  split
  · exact enterElem_keeps s _ _
  · exact raise_keeps s _

theorem ackDone_keeps (ts : Stamp) : ArmKeeps s (ackDone ts s).1 := by
  obtain ⟨_, h⟩ | ⟨_, _, h⟩ | ⟨_, _, _, _, h⟩ := ackDone_cases ts s <;> rw [h]
  · exact raise_keeps s _
  · exact (rxFinish_keeps _ ts).after rfl rfl rfl rfl
  · exact enterElem_keeps s _ _

theorem deliverVal_keeps (f : FieldCode) (b : Bool) : ArmKeeps s (deliverVal f b s).1 := by
  unfold deliverVal
  split
  · split
    · exact (advanceRx_keeps _).after rfl rfl rfl rfl
    · exact .trans (accumulateBit_keeps s b) (raise_keeps _ _)
  · exact accumulateBit_keeps s b

theorem deliverPar_keeps (f : FieldCode) (b : Bool) : ArmKeeps s (deliverPar f b s).1 := by
  obtain ⟨_, h⟩ | ⟨_, _, _, h⟩ | ⟨_, _, h⟩ := deliverPar_cases f b s <;> rw [h]
  · exact (rxEnd_keeps _ _ _ _).after rfl rfl rfl rfl
  · exact raise_keeps s _
  · exact (advanceRx_keeps _).after rfl rfl rfl rfl

theorem rxDeliver_keeps (b : Bool) (ts : Stamp) : ArmKeeps s (rxDeliver b ts s).1 := by
  unfold rxDeliver
  split
  · exact deliverVal_keeps s _ b
  · exact deliverPar_keeps s _ b
  · exact ackDone_keeps s ts
  · exact raise_keeps s _

theorem countOrTimeout_keeps (f : FieldCode) : ArmKeeps s (countOrTimeout f s) := by
  unfold countOrTimeout
  split
  · exact (rxEnd_keeps _ _ _ _).after rfl rfl rfl rfl
  · exact .of_eq rfl rfl rfl rfl

theorem afterBit_keeps (b : Bool) (w : Nat) : ArmKeeps s (afterBit b w s) := by
  unfold afterBit
  split <;> exact .of_eq rfl rfl rfl rfl

/-- What follows a delivered symbol keeps what both its parts keep. -/
theorem ifContinues_keeps {r : State × Bool} {next : State → State} (h : ArmKeeps s r.1)
    (hnext : ∀ u, ArmKeeps u (next u)) : ArmKeeps s (ifContinues r next) := by
  unfold ifContinues
  split
  · exact h.trans (hnext _)
  · exact h

theorem armStartMeas_keeps (l : Bool) : ArmKeeps s (armStartMeas l s) := by
  unfold armStartMeas
  split
  · exact countOrTimeout_keeps s _
  · split
    · exact .of_eq rfl rfl rfl rfl
    · exact rxEnd_keeps s _ _ _

theorem armRxWaithigh_keeps (l : Bool) : ArmKeeps s (armRxWaithigh l s) := by
  unfold armRxWaithigh
  split
  · exact raise_keeps s _
  · split
    · split <;> exact .of_eq rfl rfl rfl rfl
    · exact countOrTimeout_keeps s _

theorem armRxMeas_keeps (l : Bool) (ts : Stamp) : ArmKeeps s (armRxMeas l ts s) := by
  unfold armRxMeas
  split
  · exact raise_keeps s _
  · split
    · exact countOrTimeout_keeps s _
    · exact ifContinues_keeps s (rxDeliver_keeps s _ ts) fun u => afterBit_keeps u _ _

theorem armRxRemain_keeps : ArmKeeps s (armRxRemain s) := by
  unfold armRxRemain
  split <;> exact .of_eq rfl rfl rfl rfl

theorem armRxAckdrive_keeps (ts : Stamp) : ArmKeeps s (armRxAckdrive ts s) := by
  unfold armRxAckdrive
  split
  · exact .of_eq rfl rfl rfl rfl
  · exact ifContinues_keeps s ((ackDone_keeps _ ts).after rfl rfl rfl rfl) fun _ => .of_eq rfl rfl rfl rfl

/-! ## The transmit pass -/

theorem startHostTx_keeps : ArmKeeps s (startHostTx s) := by
  obtain ⟨_, h⟩ | ⟨_, h⟩ := startHostTx_cases s <;> rw [h]
  · exact .of_eq rfl rfl rfl rfl
  · exact ⟨rfl, List.prefix_rfl, fun _ => resultLegal_zero 3, id⟩

theorem armArb_keeps (l : Bool) : ArmKeeps s (armArb l s) := by
  unfold armArb
  split
  · exact .of_eq rfl rfl rfl rfl
  · split
    · exact encodeStart_keeps s
    · exact .of_eq rfl rfl rfl rfl

theorem beginTxSymbol_keeps (e : Elem) (ts : Stamp) : ArmKeeps s (beginTxSymbol e ts s) := by
  have hset : ArmKeeps s { s with elem := e } := .of_eq rfl rfl rfl rfl
  unfold beginTxSymbol
  split
  · exact hset.trans (encodeStart_keeps _)
  · exact hset.trans (encodeWord_keeps _ _)
  · exact hset.trans (encodeParity_keeps _)
  · exact hset.trans (raise_keeps _ _)
  · exact hset.trans (txEnd_keeps _ _ _ _ ts)

theorem beginAck_keeps (ts : Stamp) : ArmKeeps s (beginAck ts s) := by
  obtain h | h | ⟨_, _, _, h⟩ := beginAck_cases ts s <;> rw [h]
  · exact .of_eq rfl rfl rfl rfl
  · exact raise_keeps s _
  · exact (beginTxSymbol_keeps _ _ ts).after rfl rfl rfl rfl

theorem beginTxElem_keeps (e : Elem) (ts : Stamp) : ArmKeeps s (beginTxElem e ts s) := by
  unfold beginTxElem
  split
  · exact (beginAck_keeps _ ts).after rfl rfl rfl rfl
  all_goals exact beginTxSymbol_keeps s _ ts

theorem advanceTx_keeps (ts : Stamp) : ArmKeeps s (advanceTx ts s) := by
  obtain ⟨_, h⟩ | ⟨_, _, _, h⟩ := advanceTx_cases ts s <;> rw [h]
  · exact raise_keeps s _
  · exact (beginTxElem_keeps _ _ ts).after rfl rfl rfl rfl

theorem armTxBit_keeps (ts : Stamp) : ArmKeeps s (armTxBit ts s) := by
  unfold armTxBit txElemDone
  split
  · exact .of_eq rfl rfl rfl rfl
  · split
    · exact sendNextBit_keeps s
    · exact advanceTx_keeps s ts

theorem measureSlot_keeps (l : Bool) : ArmKeeps s (measureSlot l s) := by
  unfold measureSlot
  split <;> exact .of_eq rfl rfl rfl rfl

theorem slotTick_keeps (f : FieldCode) (ts : Stamp) : ArmKeeps s (slotTick f ts s) := by
  unfold slotTick
  split
  · split
    · exact advanceTx_keeps s ts
    · exact txEnd_keeps s _ _ _ ts
  · exact .of_eq rfl rfl rfl rfl

theorem armTxAck_keeps (l : Bool) (ts : Stamp) : ArmKeeps s (armTxAck l ts s) := by
  unfold armTxAck
  split
  · exact raise_keeps s _
  · split
    · exact txEnd_keeps s _ _ _ ts
    · exact (measureSlot_keeps s l).trans (slotTick_keeps _ _ ts)

/-! ## The tick -/

/-- The state with TX_PENDING as an arm leaves it: only IDLE takes a pending transmit (40_step.md R92). -/
def takePending (s : State) : State := { s with txPending := s.txPending && !decide (s.phase = .idle) }

theorem takePending_of_ne_idle {s : State} (h : s.phase ≠ .idle) : takePending s = s := by
  simp [takePending, h]

theorem armIdle_keeps (l : Bool) (h : s.phase = .idle) : ArmKeeps (takePending s) (armIdle l s) := by
  have hclear : takePending s = { s with txPending := false } := by simp [takePending, h]
  unfold armIdle
  rw [hclear]
  split
  · exact startHostTx_keeps _
  · rename_i hp
    have hp : s.txPending = false := by simpa using hp
    have hs : hostSide s = hostSide { s with txPending := false } := by simp [hostSide, hp]
    split <;> exact .of_eq hs rfl rfl rfl

/-- Whatever the phase, an arm leaves the host's side alone but for the pending transmit that IDLE takes. -/
theorem arm_keeps (l : Bool) (ts : Stamp) : ArmKeeps (takePending s) (arm l ts s) := by
  unfold arm
  split <;> rename_i hphase
  case h_1 => exact armIdle_keeps s l hphase
  all_goals rw [takePending_of_ne_idle (by simp [hphase])]
  · exact armStartMeas_keeps s l
  · exact armRxWaithigh_keeps s l
  · exact armRxMeas_keeps s l ts
  · exact armRxRemain_keeps s
  · exact armRxAckdrive_keeps s ts
  · exact armArb_keeps s l
  · exact armTxBit_keeps s ts
  · exact armTxAck_keeps s l ts

/-- The host's side after a tick: the watchdog's count and the tick number have moved, and a pending transmit is
taken in IDLE. -/
theorem tick_hostSide (ext : Bool) (ts : Stamp) :
    hostSide (tick ext ts s) =
      hostSide { takePending s with wdtcnt := (watchdog s).wdtcnt, time := s.time + 1 } :=
  congrArg (fun h : HostSide => { h with time := s.time + 1 }) (arm_keeps (watchdog s) (lineOf ext s) ts).host

theorem tick_par (ext : Bool) (ts : Stamp) : (tick ext ts s).par = s.par :=
  congrArg HostSide.par (tick_hostSide s ext ts)

theorem tick_opTick (ext : Bool) (ts : Stamp) : (tick ext ts s).opTick = s.opTick :=
  congrArg HostSide.opTick (tick_hostSide s ext ts)

theorem tick_wdtcnt (ext : Bool) (ts : Stamp) : (tick ext ts s).wdtcnt = (watchdog s).wdtcnt :=
  congrArg HostSide.wdtcnt (tick_hostSide s ext ts)

theorem tick_txPending (ext : Bool) (ts : Stamp) :
    (tick ext ts s).txPending = (s.txPending && !decide (s.phase = .idle)) :=
  congrArg HostSide.txPending (tick_hostSide s ext ts)

theorem tick_events_prefix (ext : Bool) (ts : Stamp) : s.events <+: (tick ext ts s).events :=
  (List.prefix_append _ _).trans (arm_keeps (watchdog s) (lineOf ext s) ts).events

/-! ## Runs of ticks and the wire rows -/

/-- What ticks with no host operation leave alone: the host's side but for TX_PENDING, the watchdog's count and the
tick number, which does not go back; and events are only appended. -/
structure TicksKeep (s t : State) : Prop where
  host : { hostSide t with txPending := false, wdtcnt := 0, time := 0 } =
    { hostSide s with txPending := false, wdtcnt := 0, time := 0 }
  time : s.time ≤ t.time
  events : s.events <+: t.events

theorem TicksKeep.refl (s : State) : TicksKeep s s := ⟨rfl, Nat.le_refl _, List.prefix_rfl⟩

theorem TicksKeep.trans {s t u : State} (h : TicksKeep s t) (h' : TicksKeep t u) : TicksKeep s u :=
  ⟨h'.host.trans h.host, Nat.le_trans h.time h'.time, h.events.trans h'.events⟩

theorem tick_ticksKeep (ext : Bool) (ts : Stamp) : TicksKeep s (tick ext ts s) where
  host := congrArg (fun h : HostSide => { h with txPending := false, wdtcnt := 0, time := 0 })
    (tick_hostSide s ext ts)
  time := Nat.le_succ _
  events := tick_events_prefix s ext ts

theorem drive_ticksKeep (es : List Bool) : TicksKeep s (drive es s) := by
  induction es generalizing s with
  | nil => exact .refl s
  | cons e es ih =>
    cases h : s.fault with
    | none =>
      rw [drive_cons h]
      exact (tick_ticksKeep s e _).trans (ih _)
    | some r =>
      rw [drive_fault h]
      exact .refl s

/-- A wire row is a string of symbols passing on the line (30_encoding.md R67, log 5). -/
theorem exec_wireRow (i : Instr) (h : isHostRow i = false) : ∃ ss, ∀ s, exec i s = live s (driveSymbols ss) := by
  cases i
  case bit1 | bit0 | start | ackSlotNotAcked | ackSlotAcked => exact ⟨_, fun _ => rfl⟩
  case fieldMode | fieldMaster | fieldSlave | fieldControl | fieldLength | fieldData | frame =>
    exact ⟨_, fun _ => rfl⟩
  all_goals simp [isHostRow] at h

/-- A wire row that answers a next state has run some ticks from a state with no fault. -/
theorem exec_wireRow_next {i : Instr} {s t : State} (h : isHostRow i = false) (hexec : exec i s = .next t) :
    ∃ ss, s.fault = none ∧ t = driveSymbols ss s := by
  obtain ⟨ss, hrow⟩ := exec_wireRow i h
  rw [hrow, live_next_iff] at hexec
  exact ⟨ss, hexec⟩

/-- The fields of the host's side that ticks leave alone, one by one. -/
theorem TicksKeep.fields {s t : State} (h : TicksKeep s t) :
    t.txb = s.txb ∧ t.ownAddr = s.ownAddr ∧ t.peerAddr = s.peerAddr ∧ t.bcastAddr = s.bcastAddr ∧
    t.ctrlFlags = s.ctrlFlags ∧ t.filterEn = s.filterEn ∧ t.errlogEn = s.errlogEn ∧ t.par = s.par ∧
    t.feed = s.feed ∧ t.opTick = s.opTick ∧ t.reads = s.reads := by
  have hhost := h.host
  simp only [hostSide, HostSide.mk.injEq] at hhost
  obtain ⟨hpar, htxb, hown, hpeer, hbcast, hflags, hfilter, herrlog, _, _, _, hfeed, hop, hreads⟩ := hhost
  exact ⟨htxb, hown, hpeer, hbcast, hflags, hfilter, herrlog, hpar, hfeed, hop, hreads⟩

end Sys2Proof.Machine

open Sys2Proof Sys2Proof.Machine

/-- Settles O50: what an arm keeps (`arm_keeps`), with the watchdog's update, for a tick; and by induction over the
row's ticks for a wire row. -/
theorem ticksLeaveHostRegisters : Obligations.TicksLeaveHostRegisters := by
  refine ⟨tick_txPending, ?_, ?_⟩
  · rintro s ext ts t rfl
    have hkeep := tick_ticksKeep s ext ts
    have hall := And.intro hkeep.fields (And.intro (tick_time ext ts s) hkeep.events)
    simpa only [and_assoc] using hall
  · intro i s t hrow hexec
    obtain ⟨ss, _, rfl⟩ := exec_wireRow_next hrow hexec
    have hkeep : TicksKeep s (driveSymbols ss s) := drive_ticksKeep s _
    have hall := And.intro hkeep.fields (And.intro hkeep.time hkeep.events)
    simpa only [and_assoc] using hall

end

section
/-! What a legal parameter record gives, and the reset state: its values, and that it meets the invariant under every
legal choice of the parameters. -/

namespace Sys2Proof.Machine

/-! ## Legal parameters -/

section

variable {p : Params} (hp : p.Legal)
include hp

/-- The order of the bit timing, inside the six bits of HOLD and PER. -/
theorem bitTiming_of_legal :
    1 ≤ p.t1High ∧ p.t1High ≤ p.tThresh ∧ p.tThresh < p.t0High ∧ p.t0High < p.tBit ∧ p.tBit < 64 := by
  obtain ⟨h1, h2, h3, h4, _, _, _, _, _, _, _, _, _, hbit, _⟩ := hp
  exact ⟨h1, h2, h3, h4, hbit⟩

/-- The order of the start bit's timing, inside the six bits of HOLD and PER. -/
theorem startTiming_of_legal : 0 < p.tStartHigh ∧ p.tStartHigh < p.tStart ∧ p.tStart < 64 := by
  obtain ⟨_, _, _, _, h5, h6, h7, _, _, _, _, _, _, _, hstart, _⟩ := hp
  omega

theorem tBusfree_pos_of_legal : 0 < p.tBusfree := by
  obtain ⟨_, _, _, _, _, _, _, _, _, hfree, _⟩ := hp
  omega

theorem wdtKickInterval_pos_of_legal : 0 < p.wdtKickInterval.toNat := by
  obtain ⟨_, _, _, _, _, _, _, _, _, _, _, _, hkick, _⟩ := hp
  exact Nat.pos_iff_ne_zero.mpr fun h => hkick (BitVec.eq_of_toNat_eq h)

theorem replyLength_of_legal : p.replyData.length ≤ maxData := by
  obtain ⟨_, _, _, _, _, _, _, _, _, _, _, _, _, _, _, _, hreply⟩ := hp
  exact hreply

end

/-! ## The reset state -/

/-- Every data byte of a cleared frame store is 0. -/
theorem frameBufZero_data (i : Fin 32) : FrameBuf.zero.data[i] = 0 := by
  simp [FrameBuf.zero]

theorem edgeTimeoutLegal_iff (p : Params) : p.EdgeTimeoutLegal ↔ ∀ n ∈ p.edgeTimeout, p.tStart ≤ n := by
  cases h : p.edgeTimeout <;> simp [Params.EdgeTimeoutLegal, h]

/-- The values of 00_scope.md R7 and R9 are legal for every EDGE_TIMEOUT of at least T_START, every
WDT_KICK_INTERVAL but 0 and every RESET_BCAST_ADDR. -/
theorem withOpen_legal {edgeTimeout : Option Nat} {interval : BitVec 16} (bcast : Addr12)
    (hedge : ∀ n ∈ edgeTimeout, 47 ≤ n) (hinterval : interval ≠ 0#16) :
    (Config.withOpen edgeTimeout interval bcast).Legal := by
  have hlegal : (Config.withOpen edgeTimeout interval bcast).EdgeTimeoutLegal := (edgeTimeoutLegal_iff _).mpr hedge
  refine ⟨?_, ?_, ?_, ?_, ?_, ?_, ?_, ?_, ?_, ?_, ?_, hlegal, hinterval, ?_⟩ <;> simp [Config.withOpen, maxData]

/-- The parameters of the reset state are legal whatever the free values are. -/
theorem params_legal : Config.params.Legal := by
  apply withOpen_legal
  · intro n hn
    obtain ⟨slack, _, rfl⟩ := Option.map_eq_some_iff.mp hn
    omega
  · have hlt := Config.wdtKickLessOne.isLt
    intro hzero
    have hnat := congrArg BitVec.toNat hzero
    simp at hnat
    omega

/-- The reset state of 10_state.md R43 meets the invariant under legal parameters. -/
theorem inv_resetWith {p : Params} (hp : p.Legal) : Inv (State.resetWith p) :=
  ⟨hp, resultLegal_zero 3, resultLegal_zero 6, Nat.zero_lt_succ _, wdtKickInterval_pos_of_legal hp, rfl, nofun,
    fun _ => rfl⟩

end Sys2Proof.Machine

open Sys2Proof Sys2Proof.Machine

/-- Settles O17: each element of the reset state is its value by definition; the data bytes of the two frame stores are
those of the cleared store. -/
theorem resetStateValues : Obligations.ResetStateValues := by
  have hstore : ∀ fr, fr = State.reset.frame ∨ fr = State.reset.txb → fr = FrameBuf.zero := by
    rintro fr (rfl | rfl) <;> rfl
  refine ⟨rfl, rfl, rfl, rfl, rfl, rfl, rfl, rfl, rfl, rfl, rfl, rfl, rfl, rfl, ?_, rfl, rfl, rfl, rfl, rfl, rfl, rfl,
    rfl, rfl, rfl, rfl, rfl, rfl⟩
  intro fr hfr
  rw [hstore fr hfr]
  exact ⟨rfl, rfl, rfl, rfl, rfl, frameBufZero_data⟩

/-- Settles O57: the reset state meets the invariant for legal parameters, and the parameters of the reset state are
legal for every value of the free ones. -/
theorem invariantAtReset : Obligations.InvariantAtReset := inv_resetWith params_legal

end

section
/-! The element sequence and the places of a pass, said as propositions: what NextElem can answer, what each phase
holds. -/

namespace Sys2Proof.Machine

/-! ## The counter -/

theorem satInc_toNat (c : BitVec 16) : (satInc c).toNat = min (c.toNat + 1) 65535 := by
  rw [satInc, sat16, BitVec.toNat_ofNat]
  exact Nat.mod_eq_of_lt (Nat.lt_of_le_of_lt (Nat.min_le_right _ _) (by decide))

theorem satInc_toNat_le (c : BitVec 16) : (satInc c).toNat ≤ c.toNat + 1 := by
  rw [satInc_toNat]
  exact Nat.min_le_left _ _

/-- Saturation shows in no comparison with a bound that fits the counter. -/
theorem satInc_lt_iff {c : BitVec 16} {n : Nat} (hn : n ≤ 65535) : (satInc c).toNat < n ↔ c.toNat + 1 < n := by
  rw [satInc_toNat]
  omega

theorem one_le_satInc (c : BitVec 16) : 1 ≤ (satInc c).toNat := by
  rw [satInc_toNat]
  omega

/-! ## The element sequence -/

/-- The length is at most MAX_DATA once it is accepted, and a data element has its index below it: `dataLegal`, of an
element with the index and the length that go with it. -/
def IndexLegal (e : Elem) (didx len : Byte) : Prop :=
  (afterLength e = true → len.toNat ≤ maxData) ∧ (codeOf e = some .data → didx.toNat < len.toNat)

theorem dataLegal_iff (s : State) : dataLegal s = true ↔ IndexLegal s.elem s.didx s.frame.len := by
  simp only [dataLegal, IndexLegal, Bool.and_eq_true, Bool.or_eq_true, Bool.not_eq_true', decide_eq_true_eq,
    ← Bool.not_eq_true, Decidable.imp_iff_not_or, ne_eq]

/-- The sequence of 40_step.md R90 gives a next element everywhere in it, START included. -/
theorem nextElem_isSome {e : Elem} (d len : Byte) (h : e = .el .start .val ∨ elemLegal e = true) :
    ∃ e' d', nextElem e d len = some (e', d') := by
  obtain rfl | h := h
  · exact ⟨_, _, rfl⟩
  cases e with
  | fin => simp [elemLegal] at h
  | el f k =>
    cases f <;> cases k <;> simp [elemLegal] at h <;> try exact ⟨_, _, rfl⟩
    all_goals
      simp only [nextElem]
      split <;> exact ⟨_, _, rfl⟩

section

variable {e e' : Elem} {d d' len : Byte} (h : nextElem e d len = some (e', d'))
include h

/-- What NextElem answers is END or an element of the sequence after START. -/
theorem nextElem_legal : e' = .fin ∨ elemLegal e' = true := by
  unfold nextElem at h
  split at h <;> (try split at h) <;> simp only [Option.some.injEq, Prod.mk.injEq, reduceCtorEq] at h
  all_goals
    obtain ⟨rfl, -⟩ := h
    simp [elemLegal]

/-- END follows a slot only, and leaves the data index alone. -/
theorem nextElem_fin (hfin : e' = .fin) : d' = d ∧ kindOf e = some .ack := by
  subst hfin
  unfold nextElem at h
  split at h <;> (try split at h) <;> simp at h
  · exact ⟨h.symm, rfl⟩
  · exact ⟨h.symm, rfl⟩

/-- The elements before FORME is known are only reached from such, and not from the slave's parity, which decides it. -/
theorem nextElem_beforeForme (he : elemLegal e = true) (h' : beforeForme e' = true) :
    beforeForme e = true ∧ e ≠ .el .slave .par := by
  unfold nextElem at h
  split at h <;> (try split at h) <;> simp only [Option.some.injEq, Prod.mk.injEq, reduceCtorEq] at h
  all_goals
    obtain ⟨rfl, -⟩ := h
    simp_all [beforeForme, elemLegal]

/-- Data elements follow the accepted length or other data elements, with their index below the length. -/
theorem nextElem_indexLegal (hidx : IndexLegal e d len) (hlen : e = .el .length .par → len.toNat ≤ maxData) :
    IndexLegal e' d' len := by
  unfold nextElem at h
  split at h <;> (try split at h) <;> simp only [Option.some.injEq, Prod.mk.injEq, reduceCtorEq] at h
  all_goals
    obtain ⟨rfl, rfl⟩ := h
    simp_all [IndexLegal, afterLength, codeOf]
  · next hne => bv_omega
  · omega

/-- The data index stays below MAX_DATA. -/
theorem nextElem_didx_lt (hd : d.toNat < maxData) (hidx : IndexLegal e' d' len) : d'.toNat < maxData := by
  obtain rfl | ⟨_, rfl, _⟩ | ⟨rfl, _, _⟩ := nextElem_index h
  · exact hd
  · decide
  · exact Nat.lt_of_lt_of_le (hidx.2 rfl) (hidx.1 rfl)

end

/-! ## Fields of legal elements -/

/-- A field of the sequence has at least one value bit. -/
theorem fieldWidth_pos_of_elemLegal {f : FieldCode} {k : Kind} (h : elemLegal (.el f k) = true) :
    1 ≤ fieldWidth f := by
  cases f <;> simp [elemLegal, fieldWidth] at *

/-- NBITS as InitVal and EncodeWord set it. -/
theorem fieldWidth_toNat (f : FieldCode) : (BitVec.ofNat 4 (fieldWidth f)).toNat = fieldWidth f := by
  cases f <;> rfl

section

variable {fr : FrameBuf} {f : FieldCode} {k : Kind} {d : Byte} (h : elemLegal (.el f k) = true)
  (hidx : IndexLegal (.el f k) d fr.len)
include h hidx

/-- A data element's index is inside the data store. -/
theorem didx_lt_of_data (hf : f = .data) : d.toNat < maxData := by
  subst hf
  exact Nat.lt_of_lt_of_le (hidx.2 rfl) (hidx.1 rfl)

/-- Every field of the sequence has a value to send. -/
theorem fieldValue_isSome : ∃ v, fieldValue fr d f = some v := by
  have hdata := didx_lt_of_data h hidx
  cases f with
  | none | start => simp [elemLegal] at h
  | mode | master | slave | control | length => exact ⟨_, rfl⟩
  | data => exact ⟨_, congrArg (Option.map _) (Vector.getElem?_eq_getElem (hdata rfl))⟩

/-- Every field of the sequence is stored, and only LENGTH changes the frame's length. -/
theorem storeField_isSome (v : BitVec 12) :
    ∃ fr', storeField fr d f v = some fr' ∧ (f ≠ .length → fr'.len = fr.len) := by
  have hdata := didx_lt_of_data h hidx
  cases f with
  | none | start => simp [elemLegal] at h
  | mode | master | slave | control => exact ⟨_, rfl, fun _ => rfl⟩
  | length => exact ⟨_, rfl, fun hne => absurd rfl hne⟩
  | data => exact ⟨_, if_pos (hdata rfl), fun _ => rfl⟩

end

/-! ## What each phase holds -/

section

variable {s : State}

theorem phaseLegal_idle (h : s.phase = .idle) :
    phaseLegal s = true ↔ s.busOut = false ∧ s.cnt = 0 ∧ s.respActive = false := by
  simp [phaseLegal, h, and_assoc]

theorem phaseLegal_startMeas (h : s.phase = .startMeas) :
    phaseLegal s = true ↔ s.busOut = false ∧ 1 ≤ s.cnt.toNat ∧ s.respActive = false := by
  simp [phaseLegal, h, and_assoc]

theorem phaseLegal_rxWaithigh (h : s.phase = .rxWaithigh) :
    phaseLegal s = true ↔ s.busOut = false ∧ rxLegal s = true := by
  simp [phaseLegal, h]

theorem phaseLegal_rxMeas (h : s.phase = .rxMeas) :
    phaseLegal s = true ↔ s.busOut = false ∧ rxLegal s = true ∧ 1 ≤ s.cnt.toNat ∧
      (kindOf s.elem = some .ack → s.forme = false) := by
  simp [phaseLegal, h, and_assoc, Decidable.imp_iff_not_or]

theorem phaseLegal_rxRemain (h : s.phase = .rxRemain) :
    phaseLegal s = true ↔ s.busOut = false ∧ rxLegal s = true ∧ s.cnt.toNat < s.par.tRem := by
  simp [phaseLegal, h, and_assoc]

theorem phaseLegal_rxAckdrive (h : s.phase = .rxAckdrive) :
    phaseLegal s = true ↔ s.busOut = true ∧ rxLegal s = true ∧ kindOf s.elem = some .ack ∧ s.forme = true ∧
      1 ≤ s.cnt.toNat ∧ s.cnt.toNat < s.par.t0High := by
  simp [phaseLegal, h, and_assoc]

theorem phaseLegal_arb (h : s.phase = .arb) :
    phaseLegal s = true ↔ s.busOut = false ∧ s.cnt.toNat < s.par.tBusfree ∧ s.frame.len.toNat ≤ maxData := by
  simp [phaseLegal, h, and_assoc]

theorem phaseLegal_txBit (h : s.phase = .txBit) :
    phaseLegal s = true ↔ (s.elem = .el .start .val ∨ elemLegal s.elem = true) ∧
      IndexLegal s.elem s.didx s.frame.len ∧ txSymbolLegal s = true ∧ s.frame.len.toNat ≤ maxData ∧
      s.cnt.toNat < s.per.toNat ∧ s.busOut = decide (s.cnt.toNat < s.hold.toNat) := by
  simp [phaseLegal, h, and_assoc, dataLegal_iff]

theorem phaseLegal_txAck (h : s.phase = .txAck) :
    phaseLegal s = true ↔ elemLegal s.elem = true ∧ kindOf s.elem = some .ack ∧
      IndexLegal s.elem s.didx s.frame.len ∧ s.frame.len.toNat ≤ maxData ∧
      s.busOut = decide (s.cnt.toNat < s.par.t1High) := by
  simp [phaseLegal, h, and_assoc, dataLegal_iff]

theorem rxLegal_iff :
    rxLegal s = true ↔ elemLegal s.elem = true ∧ IndexLegal s.elem s.didx s.frame.len ∧ bitsToReceive s = true ∧
      (beforeForme s.elem = true → s.forme = false) ∧ s.respActive = false := by
  simp [rxLegal, and_assoc, dataLegal_iff, Decidable.imp_iff_not_or]

/-- A value element has between one and Width(F) bits to come. -/
theorem bitsToReceive_val {f : FieldCode} (h : s.elem = .el f .val) :
    bitsToReceive s = true ↔ 1 ≤ s.nbits.toNat ∧ s.nbits.toNat ≤ fieldWidth f := by
  simp [bitsToReceive, h]

/-- A parity bit and a slot are one symbol, whatever NBITS holds. -/
theorem bitsToReceive_of_ne_val (h : kindOf s.elem ≠ some .val) : bitsToReceive s = true := by
  unfold bitsToReceive
  split
  · next f he => simp [kindOf, he] at h
  · rfl

/-- The symbol of a value bit: NBITS counts the bits still to come after it. -/
theorem txSymbolLegal_val {f : FieldCode} (h : s.elem = .el f .val) (hf : f ≠ .start) :
    txSymbolLegal s = true ↔ s.nbits.toNat < fieldWidth f ∧ s.per.toNat = s.par.tBit ∧
      (s.hold.toNat = s.par.t1High ∨ s.hold.toNat = s.par.t0High) := by
  cases f <;> simp [txSymbolLegal, h, and_assoc] at hf ⊢

theorem txSymbolLegal_start (h : s.elem = .el .start .val) :
    txSymbolLegal s = true ↔
      s.nbits = 0 ∧ s.hold.toNat = s.par.tStartHigh ∧ s.per.toNat = s.par.tStart := by
  simp [txSymbolLegal, h, and_assoc]

theorem txSymbolLegal_par {f : FieldCode} (h : s.elem = .el f .par) :
    txSymbolLegal s = true ↔ s.per.toNat = s.par.tBit ∧
      (s.hold.toNat = s.par.t1High ∨ s.hold.toNat = s.par.t0High) := by
  simp [txSymbolLegal, h]

end

end Sys2Proof.Machine

end

section
/-! Every arm takes a legal place of a pass to a legal place, or stops at the length check. The receive pass and the
transmit pass each have a predicate for the block between two symbols. -/

namespace Sys2Proof.Machine

/-! ## Legal places -/

/-- The part of the invariant that the arms work on: DIDX in bounds, no `noRule`, and a legal place while the block
runs. -/
structure Placed (s : State) : Prop where
  didx : s.didx.toNat < maxData
  fault : s.fault ≠ some .noRule
  phase : s.fault = none → phaseLegal s = true

section

variable {s : State}

/-- A running block at a legal place. -/
theorem Placed.running (hdidx : s.didx.toNat < maxData) (hfault : s.fault = none) (hphase : phaseLegal s = true) :
    Placed s := ⟨hdidx, by simp [hfault], fun _ => hphase⟩

/-- The stop at a length above MAX_DATA (60_exceptions.md R193). -/
theorem placed_lengthOverflow (hdidx : s.didx.toNat < maxData) : Placed (raise .lengthOverflow s) :=
  ⟨hdidx, by simp, by simp⟩

/-- The end of a receive pass is IDLE as it should be. -/
theorem placed_rxEnd (k : RxKind) (f : FieldCode) (i : Byte) (hdidx : s.didx.toNat < maxData)
    (hfault : s.fault = none) (hresp : s.respActive = false) : Placed (rxEnd k f i s) :=
  .running hdidx hfault ((phaseLegal_idle rfl).mpr ⟨rfl, rfl, hresp⟩)

/-- The end of a transmit pass is IDLE as it should be, and no response is under way after it. -/
theorem placed_txEnd (k : TxKind) (f : FieldCode) (i : Byte) (ts : Stamp) (hdidx : s.didx.toNat < maxData)
    (hfault : s.fault = none) : Placed (txEnd k f i ts s) :=
  .running hdidx hfault ((phaseLegal_idle rfl).mpr ⟨rfl, rfl, rfl⟩)

end

/-! ## The receive pass between two symbols -/

/-- A block inside a receive pass with the line released, at a legal element. -/
structure RxPlace (s : State) : Prop where
  fault : s.fault = none
  line : s.busOut = false
  resp : s.respActive = false
  didx : s.didx.toNat < maxData
  elem : elemLegal s.elem = true
  index : IndexLegal s.elem s.didx s.frame.len
  par : s.par.Legal

/-- A receiver with its element still to come. -/
structure Receiving (s : State) : Prop extends RxPlace s where
  bits : bitsToReceive s = true
  forme : beforeForme s.elem = true → s.forme = false

/-- A receiver that has been given its element's last bit: what the element decides is decided, FORME by the slave's
parity and the length by LENGTH's. -/
structure Delivered (s : State) : Prop extends RxPlace s where
  forme : beforeForme s.elem = true → s.elem ≠ .el .slave .par → s.forme = false
  length : s.elem = .el .length .par → s.frame.len.toNat ≤ maxData

/-- What RxDeliver and AckDone leave: a receiver while the pass continues, else a legal place. -/
def PassLeft (r : State × Bool) : Prop := if r.2 then Receiving r.1 else Placed r.1

section

variable {s : State}

theorem passLeft_true (h : Receiving s) : PassLeft (s, true) := h

theorem passLeft_false (h : Placed s) : PassLeft (s, false) := by simpa [PassLeft] using h

/-- What a receiver holds in the phases of a receive pass. -/
theorem Receiving.of_rxLegal (hpar : s.par.Legal) (hfault : s.fault = none) (hdidx : s.didx.toNat < maxData)
    (hline : s.busOut = false) (h : rxLegal s = true) : Receiving s := by
  obtain ⟨helem, hindex, hbits, hforme, hresp⟩ := rxLegal_iff.mp h
  exact ⟨⟨hfault, hline, hresp, hdidx, helem, hindex, hpar⟩, hbits, hforme⟩

theorem Receiving.rxLegal_eq_true (h : Receiving s) : rxLegal s = true :=
  rxLegal_iff.mpr ⟨h.elem, h.index, h.bits, h.forme, h.resp⟩

/-- A symbol that decides nothing yet: any but the parity of SLAVE and LENGTH. -/
theorem Receiving.delivered (h : Receiving s) (hpar : s.elem ≠ .el .length .par) : Delivered s :=
  ⟨h.toRxPlace, fun hb _ => h.forme hb, fun he => absurd he hpar⟩

end

/-! ## The next element of a receive pass -/

/-- Entering an element changes ELEM, DIDX and, for a value, what InitVal prepares. -/
theorem enterElem_eq (e : Elem) (d : Byte) (s : State) :
    ∃ sh pa nb, enterElem e d s = { s with elem := e, didx := d, shift := sh, parity := pa, nbits := nb } ∧
      ∀ f, e = .el f .val → nb = BitVec.ofNat 4 (fieldWidth f) := by
  unfold enterElem
  split
  · exact ⟨_, _, _, rfl, fun f hf => by cases hf; rfl⟩
  all_goals exact ⟨_, _, _, rfl, nofun⟩

/-- The element that NextElem gives a receiver is one it can receive. -/
theorem Delivered.receiving_enterElem {s : State} (h : Delivered s) {f : FieldCode} {k : Kind} {d : Byte}
    (hnext : nextElem s.elem s.didx s.frame.len = some (.el f k, d)) : Receiving (enterElem (.el f k) d s) := by
  have hindex := nextElem_indexLegal hnext h.index h.length
  have helem : elemLegal (.el f k) = true := by simpa using nextElem_legal hnext
  obtain ⟨sh, pa, nb, heq, hnb⟩ := enterElem_eq (.el f k) d s
  rw [heq]
  refine ⟨⟨h.fault, h.line, h.resp, nextElem_didx_lt hnext h.didx hindex, helem, hindex, h.par⟩, ?_, ?_⟩
  · by_cases hk : k = .val
    · subst hk
      have hpos := fieldWidth_pos_of_elemLegal helem
      rw [bitsToReceive_val (f := f) rfl, hnb f rfl, fieldWidth_toNat]
      exact ⟨hpos, Nat.le_refl _⟩
    · exact bitsToReceive_of_ne_val (by simpa [kindOf] using hk)
  · intro hb
    obtain ⟨hbefore, hne⟩ := nextElem_beforeForme hnext h.elem hb
    exact h.forme hbefore hne

/-- After a value or a parity bit the pass goes on. -/
theorem Delivered.passLeft_advanceRx {s : State} (h : Delivered s) (hk : kindOf s.elem ≠ some .ack) :
    PassLeft (advanceRx s) := by
  obtain ⟨e, d, hnext⟩ := nextElem_isSome s.didx s.frame.len (.inr h.elem)
  cases e with
  | fin => exact absurd (nextElem_fin hnext rfl).2 hk
  | el f k =>
    have hadv : advanceRx s = (enterElem (.el f k) d s, true) := by simp [advanceRx, hnext]
    rw [hadv]
    exact passLeft_true (h.receiving_enterElem hnext)

/-- A reply to send is a legal place of ARB: its length is REPLY_DATA's (45_frame_receive.md R163). -/
theorem placed_respond {s : State} (token : Byte) (hpar : s.par.Legal) (hfault : s.fault = none) :
    Placed (respond token s) := by
  have hlen : (BitVec.ofNat 8 s.par.replyData.length).toNat ≤ maxData := by
    rw [BitVec.toNat_ofNat]
    exact Nat.le_trans (Nat.mod_le _ _) (replyLength_of_legal hpar)
  exact .running (Nat.zero_lt_succ _) hfault ((phaseLegal_arb rfl).mpr ⟨rfl, tBusfree_pos_of_legal hpar, hlen⟩)

/-- RxFinish answers with a reply or ends the pass. -/
theorem placed_rxFinish {s : State} (ts : Stamp) (hpar : s.par.Legal) (hdidx : s.didx.toNat < maxData)
    (hfault : s.fault = none) (hresp : s.respActive = false) : Placed (rxFinish ts s) := by
  have hend (k : RxKind) : Placed (rxEnd k .none 0 (register ts s)) := placed_rxEnd k _ _ hdidx hfault hresp
  unfold rxFinish
  obtain ⟨_, h⟩ | ⟨_, _, h⟩ | ⟨_, _, h⟩ := conclude_cases (register ts s) <;> rw [h]
  · exact placed_respond _ hpar hfault
  · obtain ⟨hd, hf, hp⟩ := hend .delivered
    exact ⟨hd, hf, hp⟩
  · exact hend .filtered

/-- After a slot the pass goes on to a value or is at its end. -/
theorem Delivered.passLeft_ackDone {s : State} (h : Delivered s) (ts : Stamp) : PassLeft (ackDone ts s) := by
  obtain ⟨hnone, _⟩ | ⟨d, hnext, heq⟩ | ⟨f, k, d, hnext, heq⟩ := ackDone_cases ts s
  · obtain ⟨e, d, hsome⟩ := nextElem_isSome s.didx s.frame.len (.inr h.elem)
    simp [hnone] at hsome
  · obtain ⟨rfl, _⟩ := nextElem_fin hnext rfl
    rw [heq]
    exact passLeft_false (placed_rxFinish ts h.par h.didx h.fault h.resp)
  · rw [heq]
    exact passLeft_true (h.receiving_enterElem hnext)

/-! ## Delivery of a bit -/

section

variable {s : State} (h : Receiving s)
include h

/-- A value bit: the field is stored with its last one, and storing LENGTH moves no index. -/
theorem Receiving.passLeft_deliverVal {f : FieldCode} (b : Bool) (he : s.elem = .el f .val) :
    PassLeft (deliverVal f b s) := by
  have helem : elemLegal (.el f .val) = true := he ▸ h.elem
  have hindex : IndexLegal (.el f .val) s.didx s.frame.len := he ▸ h.index
  obtain ⟨hpos, hle⟩ := (bitsToReceive_val he).mp h.bits
  unfold deliverVal
  split
  · obtain ⟨fr, hstore, hlen⟩ := storeField_isSome helem hindex (accumulateBit b s).shift
    rw [hstore]
    have hindex' : IndexLegal (.el f .val) s.didx fr.len := by
      by_cases hf : f = .length
      · subst hf
        exact ⟨nofun, nofun⟩
      · rw [hlen hf]
        exact hindex
    refine Delivered.passLeft_advanceRx ⟨⟨h.fault, h.line, h.resp, h.didx, h.elem, ?_, h.par⟩, ?_, ?_⟩ ?_
    · simpa [he] using hindex'
    · exact fun hb _ => h.forme hb
    · simp [he]
    · simp [he, kindOf]
  · next hmore =>
    have hbits : bitsToReceive (accumulateBit b s) = true := by
      rw [bitsToReceive_val (by simpa using he), accumulateBit_nbits]
      rw [accumulateBit_nbits] at hmore
      bv_omega
    exact passLeft_true ⟨⟨h.fault, h.line, h.resp, h.didx, h.elem, h.index, h.par⟩, hbits, h.forme⟩

/-- A parity bit: the pass ends, the model stops at a length above MAX_DATA, or the pass goes on with what the field
decides. -/
theorem Receiving.passLeft_deliverPar {f : FieldCode} (b : Bool) (he : s.elem = .el f .par) :
    PassLeft (deliverPar f b s) := by
  obtain ⟨_, heq⟩ | ⟨_, _, _, heq⟩ | ⟨_, hcheck, heq⟩ := deliverPar_cases f b s <;> rw [heq]
  · exact passLeft_false (placed_rxEnd _ _ _ h.didx h.fault h.resp)
  · exact passLeft_false (placed_lengthOverflow h.didx)
  · refine Delivered.passLeft_advanceRx ⟨⟨h.fault, h.line, h.resp, h.didx, h.elem, h.index, h.par⟩, ?_, ?_⟩ ?_
    · intro hb hne
      have hf : f ≠ .slave := by
        rintro rfl
        exact hne he
      simpa [hf] using h.forme hb
    · intro hl
      have hf : f = .length := by simpa [he] using hl
      simpa [hf] using hcheck
    · simp [he, kindOf]

theorem Receiving.passLeft_rxDeliver (b : Bool) (ts : Stamp) : PassLeft (rxDeliver b ts s) := by
  have helem := h.elem
  unfold rxDeliver
  split
  · next f he => exact h.passLeft_deliverVal b he
  · next f he => exact h.passLeft_deliverPar b he
  · next f he => exact (h.delivered (by simp [he])).passLeft_ackDone ts
  · next he => simp [he, elemLegal] at helem

theorem Receiving.placed_waithigh (c : BitVec 16) : Placed { s with phase := .rxWaithigh, cnt := c } :=
  .running h.didx h.fault ((phaseLegal_rxWaithigh rfl).mpr ⟨h.line, h.rxLegal_eq_true⟩)

/-- What follows a decoded bit is a legal wait. -/
theorem Receiving.placed_afterBit (b : Bool) (w : Nat) : Placed (afterBit b w s) := by
  unfold afterBit
  split
  · next hrem =>
    obtain ⟨_, hw⟩ : b = false ∧ w + 1 < s.par.tRem := by simpa using hrem
    refine .running h.didx h.fault ((phaseLegal_rxRemain rfl).mpr ⟨h.line, h.rxLegal_eq_true, ?_⟩)
    simpa using Nat.lt_of_le_of_lt (Nat.mod_le _ _) hw
  · exact h.placed_waithigh 0

end

theorem PassLeft.placed_ifContinues {r : State × Bool} {next : State → State} (h : PassLeft r)
    (hnext : ∀ u, Receiving u → Placed (next u)) : Placed (ifContinues r next) := by
  unfold ifContinues PassLeft at *
  split
  · next hr => exact hnext _ (by simpa [hr] using h)
  · next hr => simpa [hr] using h

/-! ## The arms of the receive pass -/

section

variable {s : State} (hpar : s.par.Legal) (hfault : s.fault = none) (hdidx : s.didx.toNat < maxData)
  (hplace : phaseLegal s = true)
include hfault hdidx

/-- A wait either reaches its bound, which ends the pass, or has counted one more sample. -/
theorem placed_countOrTimeout (f : FieldCode) (hresp : s.respActive = false)
    (hcount : phaseLegal { s with cnt := satInc s.cnt } = true) : Placed (countOrTimeout f s) := by
  unfold countOrTimeout
  split
  · exact placed_rxEnd _ _ _ hdidx hfault hresp
  · exact .running hdidx hfault hcount

include hplace

theorem placed_armStartMeas (l : Bool) (h : s.phase = .startMeas) : Placed (armStartMeas l s) := by
  obtain ⟨hline, _, hresp⟩ := (phaseLegal_startMeas h).mp hplace
  unfold armStartMeas
  split
  · exact placed_countOrTimeout hfault hdidx _ hresp
      (Iff.mpr (phaseLegal_startMeas h) ⟨hline, one_le_satInc _, hresp⟩)
  · split
    · have hrx : rxLegal (acceptStart s) = true :=
        rxLegal_iff.mpr ⟨rfl, ⟨nofun, nofun⟩, rfl, fun _ => rfl, hresp⟩
      exact .running (Nat.zero_lt_succ _) hfault ((phaseLegal_rxWaithigh rfl).mpr ⟨hline, hrx⟩)
    · exact placed_rxEnd _ _ _ hdidx hfault hresp

theorem placed_armRxRemain (h : s.phase = .rxRemain) : Placed (armRxRemain s) := by
  obtain ⟨hline, hlegal, _⟩ := (phaseLegal_rxRemain h).mp hplace
  unfold armRxRemain
  split
  · exact .running hdidx hfault ((phaseLegal_rxWaithigh rfl).mpr ⟨hline, hlegal⟩)
  · next hmore =>
    exact .running hdidx hfault (Iff.mpr (phaseLegal_rxRemain h) ⟨hline, hlegal, Nat.lt_of_not_le hmore⟩)

include hpar

theorem placed_armRxWaithigh (l : Bool) (h : s.phase = .rxWaithigh) : Placed (armRxWaithigh l s) := by
  obtain ⟨hline, hlegal⟩ := (phaseLegal_rxWaithigh h).mp hplace
  obtain ⟨helem, _, _, _, hresp⟩ := rxLegal_iff.mp hlegal
  unfold armRxWaithigh
  split
  · next he => simp [he, elemLegal] at helem
  · next f k he =>
    split
    · split
      · next hown =>
        obtain ⟨rfl, hforme⟩ : k = .ack ∧ s.forme = true := by simpa [isOwnSlot] using hown
        have hhigh : 1 < s.par.t0High := by
          have := bitTiming_of_legal hpar
          omega
        exact .running hdidx hfault
          ((phaseLegal_rxAckdrive rfl).mpr ⟨rfl, hlegal, by simp [he, kindOf], hforme, Nat.le_refl _, hhigh⟩)
      · next hown =>
        have hslot : kindOf s.elem = some .ack → s.forme = false := by simpa [isOwnSlot, he, kindOf] using hown
        exact .running hdidx hfault ((phaseLegal_rxMeas rfl).mpr ⟨hline, hlegal, Nat.le_refl _, hslot⟩)
    · exact placed_countOrTimeout hfault hdidx _ hresp (Iff.mpr (phaseLegal_rxWaithigh h) ⟨hline, hlegal⟩)

theorem placed_armRxMeas (l : Bool) (ts : Stamp) (h : s.phase = .rxMeas) : Placed (armRxMeas l ts s) := by
  obtain ⟨hline, hlegal, _, hslot⟩ := (phaseLegal_rxMeas h).mp hplace
  have hrx := Receiving.of_rxLegal hpar hfault hdidx hline hlegal
  have helem := hrx.elem
  unfold armRxMeas
  split
  · next he => simp [he, elemLegal] at helem
  · split
    · exact placed_countOrTimeout hfault hdidx _ hrx.resp
        (Iff.mpr (phaseLegal_rxMeas h) ⟨hline, hlegal, one_le_satInc _, hslot⟩)
    · exact (hrx.passLeft_rxDeliver _ ts).placed_ifContinues fun _ hu => hu.placed_afterBit _ _

theorem placed_armRxAckdrive (ts : Stamp) (h : s.phase = .rxAckdrive) : Placed (armRxAckdrive ts s) := by
  obtain ⟨_, hlegal, hkind, hforme, _, _⟩ := (phaseLegal_rxAckdrive h).mp hplace
  unfold armRxAckdrive
  split
  · next hmore =>
    exact .running hdidx hfault
      (Iff.mpr (phaseLegal_rxAckdrive h) ⟨rfl, hlegal, hkind, hforme, one_le_satInc _, hmore⟩)
  · have hrx : Receiving { s with cnt := satInc s.cnt, busOut := false } :=
      .of_rxLegal hpar hfault hdidx rfl hlegal
    have hslot : s.elem ≠ .el .length .par := by
      intro he
      simp [he, kindOf] at hkind
    exact ((hrx.delivered hslot).passLeft_ackDone ts).placed_ifContinues fun _ hu => hu.placed_waithigh 0

end

/-! ## The transmit pass between two symbols -/

/-- A sender between two symbols, its frame no longer than MAX_DATA. -/
structure Sending (s : State) : Prop where
  fault : s.fault = none
  didx : s.didx.toNat < maxData
  par : s.par.Legal
  len : s.frame.len.toNat ≤ maxData

/-- A sender at an element of the sequence. -/
structure SendingElem (s : State) : Prop extends Sending s where
  elem : elemLegal s.elem = true
  index : IndexLegal s.elem s.didx s.frame.len

section

variable {s : State}

theorem toNat_ofNat_six {n : Nat} (h : n < 64) : (BitVec.ofNat 6 n).toNat = n := by
  rw [BitVec.toNat_ofNat]
  exact Nat.mod_eq_of_lt h

/-- The start bit begins in its first tick, high. -/
theorem Sending.placed_encodeStart (h : Sending s) : Placed (encodeStart s) := by
  obtain ⟨hpos, hlt, hsix⟩ := startTiming_of_legal h.par
  have hhold : (encodeStart s).hold.toNat = s.par.tStartHigh := toNat_ofNat_six (Nat.lt_trans hlt hsix)
  have hper : (encodeStart s).per.toNat = s.par.tStart := toNat_ofNat_six hsix
  refine .running h.didx h.fault ((phaseLegal_txBit rfl).mpr ⟨.inl rfl, ⟨nofun, nofun⟩, ?_, h.len, ?_, ?_⟩)
  · exact (txSymbolLegal_start rfl).mpr ⟨rfl, hhold, hper⟩
  · rw [hper]
    exact Nat.lt_trans hpos hlt
  · rw [hhold]
    exact (decide_eq_true hpos).symm

/-- A bit's symbol begins in its first tick, high, with the HOLD of its bit. -/
theorem SendingElem.placed_emitBit (h : SendingElem s) (b : Bool) (hkind : kindOf s.elem ≠ some .ack)
    (hbits : ∀ f, s.elem = .el f .val → s.nbits.toNat < fieldWidth f) : Placed (emitBit b s) := by
  obtain ⟨h1, h2, h3, h4, hsix⟩ := bitTiming_of_legal h.par
  have hper : (emitBit b s).per.toNat = s.par.tBit := toNat_ofNat_six hsix
  have hhold : (emitBit b s).hold.toNat = s.par.t1High ∨ (emitBit b s).hold.toNat = s.par.t0High := by
    have h1six : s.par.t1High < 64 := by omega
    have h0six : s.par.t0High < 64 := by omega
    cases b
    · exact .inr (toNat_ofNat_six h0six)
    · exact .inl (toNat_ofNat_six h1six)
  have hsymbol : txSymbolLegal (emitBit b s) = true := by
    have helem := h.elem
    cases he : s.elem with
    | fin => simp [he, elemLegal] at helem
    | el f k =>
      cases k with
      | val =>
        have hf : f ≠ .start := by
          rintro rfl
          simp [he, elemLegal] at helem
        exact Iff.mpr (txSymbolLegal_val he hf) ⟨hbits f he, hper, hhold⟩
      | par => exact Iff.mpr (txSymbolLegal_par he) ⟨hper, hhold⟩
      | ack => simp [he, kindOf] at hkind
  refine .running h.didx h.fault ((phaseLegal_txBit rfl).mpr ⟨.inr h.elem, h.index, hsymbol, h.len, ?_, ?_⟩)
  · rw [hper]
    change 0 < s.par.tBit
    omega
  · refine (decide_eq_true ?_).symm
    change 0 < (emitBit b s).hold.toNat
    omega

/-- The next bit of a value goes out while NBITS counts one. -/
theorem SendingElem.placed_sendNextBit (h : SendingElem s) {f : FieldCode} (he : s.elem = .el f .val)
    (hpos : 0 < s.nbits.toNat) (hle : s.nbits.toNat ≤ fieldWidth f) : Placed (sendNextBit s) := by
  have hsend : SendingElem { s with
      parity := s.parity ^^ s.shift.getLsbD (s.nbits.toNat - 1), nbits := s.nbits - 1 } :=
    ⟨⟨h.fault, h.didx, h.par, h.len⟩, h.elem, h.index⟩
  refine hsend.placed_emitBit _ (by simp [he, kindOf]) ?_
  rintro g hg
  obtain rfl : f = g := by simpa [he] using hg
  change (s.nbits - 1).toNat < fieldWidth f
  bv_omega

/-- A field's first bit goes out: every field of the sequence has a value. -/
theorem SendingElem.placed_encodeWord (h : SendingElem s) {f : FieldCode} (he : s.elem = .el f .val) :
    Placed (encodeWord f s) := by
  have helem : elemLegal (.el f .val) = true := he ▸ h.elem
  have hpos := fieldWidth_pos_of_elemLegal helem
  obtain ⟨v, hv⟩ := fieldValue_isSome helem (he ▸ h.index)
  unfold encodeWord
  rw [hv]
  have hsend : SendingElem { s with shift := v, parity := false, nbits := BitVec.ofNat 4 (fieldWidth f) } :=
    ⟨⟨h.fault, h.didx, h.par, h.len⟩, h.elem, h.index⟩
  have hnbits := fieldWidth_toNat f
  exact hsend.placed_sendNextBit he (Nat.lt_of_lt_of_eq hpos hnbits.symm) (Nat.le_of_eq hnbits)

/-- The slot opens in its first tick, high. -/
theorem SendingElem.placed_openSlot (h : SendingElem s) (hkind : kindOf s.elem = some .ack) : Placed (openSlot s) := by
  have hhigh : 0 < s.par.t1High := (bitTiming_of_legal h.par).1
  exact .running h.didx h.fault
    ((phaseLegal_txAck rfl).mpr ⟨h.elem, hkind, h.index, h.len, (decide_eq_true hhigh).symm⟩)

/-- An element that is no slot starts legally, and END ends the pass. -/
theorem Sending.placed_beginTxSymbol (h : Sending s) (e : Elem) (ts : Stamp) (he : e = .fin ∨ elemLegal e = true)
    (hindex : IndexLegal e s.didx s.frame.len) (hkind : kindOf e ≠ some .ack) : Placed (beginTxSymbol e ts s) := by
  have hsend (hlegal : elemLegal e = true) : SendingElem { s with elem := e } :=
    ⟨⟨h.fault, h.didx, h.par, h.len⟩, hlegal, hindex⟩
  unfold beginTxSymbol
  split
  · simp [elemLegal] at he
  · exact (hsend (by simpa using he)).placed_encodeWord rfl
  · exact (hsend (by simpa using he)).placed_emitBit _ (by simp [kindOf]) nofun
  · simp [kindOf] at hkind
  · exact placed_txEnd _ _ _ ts h.didx h.fault

/-- A slot opens, or is passed over to an element that is no slot. -/
theorem SendingElem.placed_beginAck (h : SendingElem s) (ts : Stamp) {f : FieldCode} (he : s.elem = .el f .ack) :
    Placed (beginAck ts s) := by
  obtain ⟨e, d, hnext⟩ := nextElem_isSome s.didx s.frame.len (.inr h.elem)
  have hindex := nextElem_indexLegal hnext h.index (by simp [he])
  have hsend : Sending { s with didx := d } := ⟨h.fault, nextElem_didx_lt hnext h.didx hindex, h.par, h.len⟩
  have hkind : kindOf e ≠ some .ack := by
    cases e with
    | fin => simp [kindOf]
    | el g k =>
      obtain rfl := nextElem_after_slot (he ▸ hnext)
      simp [kindOf]
  unfold beginAck
  rw [hnext]
  split
  · exact hsend.placed_beginTxSymbol e ts (nextElem_legal hnext) hindex hkind
  all_goals exact h.placed_openSlot (by simp [he, kindOf])

theorem Sending.placed_beginTxElem (h : Sending s) (e : Elem) (ts : Stamp) (he : e = .fin ∨ elemLegal e = true)
    (hindex : IndexLegal e s.didx s.frame.len) : Placed (beginTxElem e ts s) := by
  unfold beginTxElem
  split
  · next f =>
    have hsend : SendingElem { s with elem := .el f .ack } :=
      ⟨⟨h.fault, h.didx, h.par, h.len⟩, by simpa using he, hindex⟩
    exact hsend.placed_beginAck ts rfl
  all_goals exact h.placed_beginTxSymbol _ ts he hindex (by simp [kindOf])

/-- The pass goes on to the next element, START's included. -/
theorem Sending.placed_advanceTx (h : Sending s) (ts : Stamp)
    (he : s.elem = .el .start .val ∨ elemLegal s.elem = true) (hindex : IndexLegal s.elem s.didx s.frame.len) :
    Placed (advanceTx ts s) := by
  obtain ⟨e, d, hnext⟩ := nextElem_isSome s.didx s.frame.len he
  have hindex' := nextElem_indexLegal hnext hindex fun _ => h.len
  have hsend : Sending { s with didx := d } := ⟨h.fault, nextElem_didx_lt hnext h.didx hindex', h.par, h.len⟩
  unfold advanceTx
  rw [hnext]
  exact hsend.placed_beginTxElem e ts (nextElem_legal hnext) hindex'

end

/-! ## The arms of the transmit pass -/

section

variable {s : State} (hpar : s.par.Legal) (hfault : s.fault = none) (hdidx : s.didx.toNat < maxData)
  (hplace : phaseLegal s = true)
include hpar hfault

/-- A transmit starts in ARB with a length that fits, or the model stops. -/
theorem placed_startHostTx (hline : s.busOut = false) (hdidx : s.didx.toNat < maxData) : Placed (startHostTx s) := by
  obtain ⟨_, h⟩ | ⟨hlen, h⟩ := startHostTx_cases s <;> rw [h]
  · exact placed_lengthOverflow hdidx
  · exact .running (Nat.zero_lt_succ _) hfault ((phaseLegal_arb rfl).mpr ⟨hline, tBusfree_pos_of_legal hpar, hlen⟩)

include hdidx hplace

theorem placed_armArb (l : Bool) (h : s.phase = .arb) : Placed (armArb l s) := by
  obtain ⟨hline, hcnt, hlen⟩ := (phaseLegal_arb h).mp hplace
  have hwait (c : BitVec 16) (hc : c.toNat < s.par.tBusfree) : Placed { s with cnt := c } :=
    .running hdidx hfault (Iff.mpr (phaseLegal_arb h) ⟨hline, hc, hlen⟩)
  unfold armArb
  split
  · exact hwait 0 (tBusfree_pos_of_legal hpar)
  · split
    · exact Sending.placed_encodeStart ⟨hfault, hdidx, hpar, hlen⟩
    · next hne => exact hwait _ (Nat.lt_of_le_of_ne (Nat.le_trans (satInc_toNat_le _) hcnt) hne)

theorem placed_armTxBit (ts : Stamp) (h : s.phase = .txBit) : Placed (armTxBit ts s) := by
  obtain ⟨helem, hindex, hsymbol, hlen, hcnt, _⟩ := (phaseLegal_txBit h).mp hplace
  have hsend : Sending s := ⟨hfault, hdidx, hpar, hlen⟩
  unfold armTxBit
  split
  · next hmore =>
    have hcount {n : BitVec 6} : (satInc s.cnt).toNat < n.toNat ↔ s.cnt.toNat + 1 < n.toNat :=
      satInc_lt_iff (Nat.le_trans (Nat.le_of_lt n.isLt) (by decide))
    refine .running hdidx hfault (Iff.mpr (phaseLegal_txBit h) ⟨helem, hindex, hsymbol, hlen, ?_, ?_⟩)
    · exact hcount.mpr hmore
    · exact decide_eq_decide.mpr hcount.symm
  · unfold txElemDone
    split
    · next hbits =>
      unfold moreBits at hbits
      split at hbits
      · next f he =>
        have hpos : 0 < s.nbits.toNat := by simpa using hbits
        have hf : f ≠ .start := by
          rintro rfl
          obtain ⟨hzero, _⟩ := (txSymbolLegal_start he).mp hsymbol
          simp [hzero] at hpos
        obtain ⟨hlt, _⟩ := (txSymbolLegal_val he hf).mp hsymbol
        have hlegal : elemLegal s.elem = true := by simpa [he, hf] using helem
        exact SendingElem.placed_sendNextBit ⟨hsend, hlegal, hindex⟩ he hpos (Nat.le_of_lt hlt)
      all_goals simp at hbits
    · exact hsend.placed_advanceTx ts helem hindex

/-- The rest of a slot's step: the slot's end, acknowledged or not, or its next tick. -/
theorem placed_slotTick (f : FieldCode) (ts : Stamp) (h : s.phase = .txAck) : Placed (slotTick f ts s) := by
  obtain ⟨helem, hkind, hindex, hlen, _⟩ := (phaseLegal_txAck h).mp hplace
  unfold slotTick
  split
  · split
    · exact Sending.placed_advanceTx ⟨hfault, hdidx, hpar, hlen⟩ ts (.inr helem) hindex
    · exact placed_txEnd _ _ _ ts hdidx hfault
  · have hhigh : s.par.t1High ≤ 65535 := by
      have := bitTiming_of_legal hpar
      omega
    exact .running hdidx hfault (Iff.mpr (phaseLegal_txAck h)
      ⟨helem, hkind, hindex, hlen, decide_eq_decide.mpr (satInc_lt_iff hhigh).symm⟩)

omit hpar hfault hdidx hplace in
/-- Measuring a sample writes MEAS and ACKED only. -/
theorem measureSlot_eq (l : Bool) : ∃ m a, measureSlot l s = { s with meas := m, acked := a } := by
  unfold measureSlot
  split <;> exact ⟨_, _, rfl⟩

theorem placed_armTxAck (l : Bool) (ts : Stamp) (h : s.phase = .txAck) : Placed (armTxAck l ts s) := by
  obtain ⟨helem, _⟩ := (phaseLegal_txAck h).mp hplace
  unfold armTxAck
  split
  · next he => simp [he, elemLegal] at helem
  · split
    · exact placed_txEnd _ _ _ ts hdidx hfault
    · obtain ⟨m, a, heq⟩ := measureSlot_eq (s := s) l
      rw [heq]
      exact placed_slotTick (s := { s with meas := m, acked := a }) hpar hfault hdidx hplace _ ts h

/-! ## Every arm -/

theorem placed_armIdle (l : Bool) (h : s.phase = .idle) : Placed (armIdle l s) := by
  obtain ⟨hline, _, hresp⟩ := (phaseLegal_idle h).mp hplace
  unfold armIdle
  split
  · exact placed_startHostTx (s := { s with txPending := false }) hpar hfault hline hdidx
  · split
    · exact .running hdidx hfault ((phaseLegal_startMeas rfl).mpr ⟨hline, Nat.le_refl _, hresp⟩)
    · exact .running hdidx hfault hplace

/-- An arm takes a running block from a legal place to a legal place, or stops it at the length check. -/
theorem placed_arm (l : Bool) (ts : Stamp) : Placed (arm l ts s) := by
  unfold arm
  split
  · next h => exact placed_armIdle hpar hfault hdidx hplace l h
  · next h => exact placed_armStartMeas hfault hdidx hplace l h
  · next h => exact placed_armRxWaithigh hpar hfault hdidx hplace l h
  · next h => exact placed_armRxMeas hpar hfault hdidx hplace l ts h
  · next h => exact placed_armRxRemain hfault hdidx hplace h
  · next h => exact placed_armRxAckdrive hpar hfault hdidx hplace ts h
  · next h => exact placed_armArb hpar hfault hdidx hplace l h
  · next h => exact placed_armTxBit hpar hfault hdidx hplace ts h
  · next h => exact placed_armTxAck hpar hfault hdidx hplace l ts h

end

end Sys2Proof.Machine

end

section
/-! The invariant, step by step: a tick, a run of ticks, an operation of the host, a row, an input. -/

namespace Sys2Proof.Machine

/-! ## Ticks -/

/-- The watchdog's count stays below WDT_KICK_INTERVAL (40_step.md R93, R96). -/
theorem watchdog_wdtcnt_lt {s : State} (hpar : s.par.Legal) (h : s.wdtcnt.toNat < s.par.wdtKickInterval.toNat) :
    (watchdog s).wdtcnt.toNat < s.par.wdtKickInterval.toNat := by
  have hpos := wdtKickInterval_pos_of_legal hpar
  rw [watchdog_wdtcnt]
  split
  · exact hpos
  · next hkick =>
    split
    · next hidle =>
      have hne : s.wdtcnt + 1 ≠ s.par.wdtKickInterval := by simpa [kicks, hidle] using hkick
      bv_omega
    · exact hpos

/-- A tick of a running block keeps the invariant: `arm_keeps` for what it does not write, `placed_arm` for its place
in the pass. -/
theorem inv_tick {s : State} (h : Inv s) (hfault : s.fault = none) (ext : Bool) (ts : Stamp) : Inv (tick ext ts s) := by
  obtain ⟨hpar, htx, hrx, hdidx, hwdt, hop, _, hplace⟩ := h
  have hkeep := arm_keeps (watchdog s) (lineOf ext s) ts
  have harm : Placed (arm (lineOf ext s) ts (watchdog s)) :=
    placed_arm (s := watchdog s) hpar hfault hdidx (hplace hfault) _ ts
  refine ⟨?_, hkeep.txResult htx, hkeep.rxResult hrx, harm.didx, ?_, ?_, harm.fault, harm.phase⟩
  · rw [tick_par]
    exact hpar
  · rw [tick_wdtcnt, tick_par]
    exact watchdog_wdtcnt_lt hpar hwdt
  · rw [tick_opTick]
    cases hs : s.opTick with
    | none => rfl
    | some u =>
      have hle : u ≤ s.time := by simpa [hs] using hop
      exact decide_eq_true (Nat.le_trans hle (Nat.le_succ _))

theorem inv_freeTick {s : State} (h : Inv s) (hfault : s.fault = none) : Inv (freeTick s) := inv_tick h hfault _ _

theorem inv_drive {s : State} (h : Inv s) (es : List Bool) : Inv (drive es s) := by
  induction es generalizing s with
  | nil => exact h
  | cons e es ih =>
    cases hfault : s.fault with
    | none =>
      rw [drive_cons hfault]
      exact ih (inv_tick h hfault e _)
    | some r =>
      rw [drive_fault hfault]
      exact h

/-- A tick with rst gives the reset state, stopped only where the block was. -/
theorem inv_resetTick {s : State} (h : Inv s) : Inv (resetTick s) := by
  obtain ⟨hpar, _, _, _, _, _, hfault, _⟩ := h
  obtain ⟨_, htx, hrx, hdidx, hwdt, hop, _, hplace⟩ := inv_resetWith hpar
  exact ⟨hpar, htx, hrx, hdidx, hwdt, hop, hfault, fun _ => hplace rfl⟩

/-! ## The host -/

/-- A host write touches nothing the invariant speaks of. -/
theorem inv_hostWrite {s : State} (h : Inv s) (a : RegAddr) (v : Reg16) : Inv (hostWrite a v s) := by
  obtain heq | ⟨_, heq⟩ | ⟨_, _, heq⟩ | ⟨_, heq⟩ | ⟨_, heq⟩ | ⟨_, heq⟩ | ⟨_, heq⟩ | heq :=
      hostWrite_cases a v s <;> rw [heq] <;> exact h

theorem inv_hostOp {s : State} (h : Inv s) (w : HostWord) : Inv (hostOp w s) := by
  obtain ⟨_, heq⟩ | ⟨_, heq⟩ := hostOp_cases w s <;> rw [heq]
  · exact inv_hostWrite h _ _
  · exact h

theorem inv_hostOps {s : State} (h : Inv s) (ws : List HostWord) : Inv (hostOps ws s) := by
  induction ws generalizing s with
  | nil => exact h
  | cons w ws ih => exact ih (inv_hostOp h w)

theorem hostOp_fault (w : HostWord) (s : State) : (hostOp w s).fault = s.fault := by
  obtain ⟨_, heq⟩ | ⟨_, heq⟩ := hostOp_cases w s <;> rw [heq]
  · obtain heq | ⟨_, heq⟩ | ⟨_, _, heq⟩ | ⟨_, heq⟩ | ⟨_, heq⟩ | ⟨_, heq⟩ | ⟨_, heq⟩ | heq :=
      hostWrite_cases (hostAddr w) (hostData w) s <;> rw [heq]
  · rfl

theorem hostOps_fault (ws : List HostWord) (s : State) : (hostOps ws s).fault = s.fault := by
  induction ws generalizing s with
  | nil => rfl
  | cons w ws ih => exact (ih _).trans (hostOp_fault w s)

/-- An operation noted in the current tick is noted for no tick to come (log 20). -/
theorem inv_noteOp {s : State} (h : Inv s) : Inv (noteOp s) := by
  obtain ⟨hpar, htx, hrx, hdidx, hwdt, _, hfault, hplace⟩ := h
  exact ⟨hpar, htx, hrx, hdidx, hwdt, decide_eq_true (Nat.le_refl _), hfault, hplace⟩

theorem inv_noteRow {s : State} (h : Inv s) (i : Instr) : Inv (noteRow i s) := by
  unfold noteRow
  split
  · exact inv_noteOp h
  · exact h

theorem inv_issueWords {s : State} (h : Inv s) (ws : List HostWord) : Inv (issueWords ws s) := by
  unfold issueWords
  split
  · exact h
  · exact inv_hostOps (inv_noteOp h) ws

theorem inv_stageBytes {s : State} (h : Inv s) (i : Nat) (ds : List Byte) : Inv (stageBytes i ds s) := by
  induction ds generalizing i s with
  | nil => exact h
  | cons d ds ih => exact ih (inv_hostWrite h _ _) (i + 1)

/-! ## Rows and other forms -/

/-- A row of the host port is an update of a running block that keeps the invariant. -/
theorem exec_hostRow (i : Instr) (h : isHostRow i = true) :
    ∃ f, (∀ s, exec i s = live s f) ∧ ∀ s, Inv s → Inv (f s) := by
  cases i
  case bit1 | bit0 | start | ackSlotNotAcked | ackSlotAcked => cases h
  case fieldMode | fieldMaster | fieldSlave | fieldControl | fieldLength | fieldData | frame => cases h
  case txgo => exact ⟨_, fun _ => rfl, fun _ hs => inv_hostWrite hs _ _⟩
  case ctrlset f e => exact ⟨_, fun _ => rfl, fun _ hs => inv_hostWrite hs _ _⟩
  case config own peer bcast flags =>
    exact ⟨_, fun _ => rfl, fun _ hs =>
      inv_hostWrite (inv_hostWrite (inv_hostWrite (inv_hostWrite hs _ _) _ _) _ _) _ _⟩
  case send m ma sa c ds =>
    refine ⟨_, fun _ => rfl, fun s hs => ?_⟩
    have hheader := inv_hostWrite (inv_hostWrite (inv_hostWrite (inv_hostWrite hs 0x10#7
      ((BitVec.ofBool m).setWidth 16)) 0x11#7 (ma.setWidth 16)) 0x12#7 (sa.setWidth 16)) 0x13#7 (c.setWidth 16)
    exact inv_hostWrite (inv_hostWrite (inv_stageBytes hheader 0 ds) _ _) _ _
  case wrRdReserved dir a v =>
    refine ⟨_, fun _ => rfl, fun s hs => ?_⟩
    cases dir <;> exact hs
  all_goals exact ⟨_, fun _ => rfl, fun _ hs => hs⟩

/-- Every row keeps the invariant: a wire row is ticks, a row of the host port an update of fields the invariant does
not speak of. -/
theorem inv_exec {s t : State} (h : Inv s) {i : Instr} (hexec : exec i s = .next t) : Inv t := by
  cases hrow : isHostRow i with
  | false =>
    obtain ⟨ss, _, rfl⟩ := exec_wireRow_next hrow hexec
    exact inv_drive h _
  | true =>
    obtain ⟨f, hf, hinv⟩ := exec_hostRow i hrow
    rw [hf, live_next_iff] at hexec
    obtain ⟨_, rfl⟩ := hexec
    exact hinv s h

theorem inv_passForm {s : State} (h : Inv s) (c : Code) : Inv (passForm c s) := by
  cases c with
  | symbol slot line => exact inv_drive h line
  | field f ss => exact inv_drive h _
  | frame ss => exact inv_drive h _
  | host w => exact inv_issueWords h [w]
  | pseudo ws => exact inv_issueWords h ws

/-! ## The inputs -/

theorem inv_nextTick {s : State} (h : Inv s) (hfault : s.fault = none) (r : TickIn) : Inv (nextTick r s) := by
  unfold nextTick
  split
  · exact inv_resetTick h
  · exact inv_tick (inv_hostOps h r.ops) ((hostOps_fault _ _).trans hfault) _ _

/-- The inputs still to come are no part of the invariant. -/
theorem inv_feed {s : State} (h : Inv s) (feed : List Input) : Inv { s with feed := feed } := h

theorem inv_passTicks {s : State} (h : Inv s) (hfault : s.fault = none) (n : Nat) (rest : List Input) :
    Inv (passTicks n rest s) := by
  obtain ⟨_, heq⟩ | ⟨_, heq⟩ | ⟨k, _, heq⟩ := passTicks_cases n rest s <;> rw [heq]
  · exact inv_feed h rest
  · exact inv_freeTick (inv_feed h rest) hfault
  · exact inv_freeTick (inv_feed h _) hfault

end Sys2Proof.Machine

open Sys2Proof Sys2Proof.Machine

/-- Settles O58: `inv_tick` for whatever lets time pass, and for the host's operations that they leave the invariant's
fields alone; one case for each kind of input. -/
theorem invariantKeptByStep : Obligations.InvariantKeptByStep := by
  intro s t h hstep
  unfold step at hstep
  split at hstep
  · cases hstep
  · next hfault =>
    split at hstep
    · cases hstep
      exact inv_freeTick h hfault
    · next c rest hfeed =>
      split at hstep
      · next i hdecode => exact inv_exec (inv_noteRow (inv_feed h rest) i) hstep
      · cases hstep
        exact inv_passForm (inv_feed h rest) c
    · next r rest hfeed =>
      cases hstep
      exact inv_nextTick (inv_feed h rest) hfault r
    · next n rest hfeed =>
      cases hstep
      exact inv_passTicks h hfault n rest
    · next e rest hfeed =>
      cases hstep
      exact inv_feed (inv_freeTick h hfault) _

end

section
/-! The transmit pass leaves the receiver's record alone: one lemma per operation of the pass, in the order of
Sys2Proof/Machine/Transmit.lean. -/

namespace Sys2Proof.Machine

/-- What a receive pass is recorded in: the frame, the last receive result and FORME (20_memory.md R60,
70_reset_and_hazards.md R213). -/
structure ReceiveSide where
  frame : FrameBuf
  rxResult : Reg16
  forme : Bool

/-- The receiver's record in a state. -/
def receiveSide (s : State) : ReceiveSide where
  frame := s.frame
  rxResult := s.rxResult
  forme := s.forme

theorem receiveSide_eq_iff {s t : State} :
    receiveSide t = receiveSide s ↔ t.frame = s.frame ∧ t.rxResult = s.rxResult ∧ t.forme = s.forme := by
  simp [receiveSide]

variable (s : State)

/-! ## The shared operations -/

theorem raise_receiveSide (r : Fault) : receiveSide (raise r s) = receiveSide s := rfl

theorem txEnd_receiveSide (k : TxKind) (f : FieldCode) (i : Byte) (ts : Stamp) :
    receiveSide (txEnd k f i ts s) = receiveSide s := rfl

theorem encodeStart_receiveSide : receiveSide (encodeStart s) = receiveSide s := rfl

theorem encodeParity_receiveSide : receiveSide (encodeParity s) = receiveSide s := rfl

theorem sendNextBit_receiveSide : receiveSide (sendNextBit s) = receiveSide s := rfl

theorem encodeWord_receiveSide (f : FieldCode) : receiveSide (encodeWord f s) = receiveSide s := by
  unfold encodeWord
  split
  · exact sendNextBit_receiveSide _
  · exact raise_receiveSide s _

/-! ## From one element to the next -/

theorem beginTxSymbol_receiveSide (e : Elem) (ts : Stamp) : receiveSide (beginTxSymbol e ts s) = receiveSide s := by
  unfold beginTxSymbol
  split
  · exact encodeStart_receiveSide _
  · exact encodeWord_receiveSide _ _
  · exact encodeParity_receiveSide _
  · exact raise_receiveSide _ _
  · exact txEnd_receiveSide _ _ _ _ ts

theorem openSlot_receiveSide : receiveSide (openSlot s) = receiveSide s := rfl

theorem beginAck_receiveSide (ts : Stamp) : receiveSide (beginAck ts s) = receiveSide s := by
  obtain h | h | ⟨_, _, _, h⟩ := beginAck_cases ts s <;> rw [h]
  · exact openSlot_receiveSide s
  · exact raise_receiveSide s _
  · exact beginTxSymbol_receiveSide _ _ ts

theorem beginTxElem_receiveSide (e : Elem) (ts : Stamp) : receiveSide (beginTxElem e ts s) = receiveSide s := by
  unfold beginTxElem
  split
  · exact beginAck_receiveSide _ ts
  all_goals exact beginTxSymbol_receiveSide s _ ts

theorem advanceTx_receiveSide (ts : Stamp) : receiveSide (advanceTx ts s) = receiveSide s := by
  obtain ⟨_, h⟩ | ⟨_, _, _, h⟩ := advanceTx_cases ts s <;> rw [h]
  · exact raise_receiveSide s _
  · exact beginTxElem_receiveSide _ _ ts

/-! ## The three arms -/

theorem armArb_receiveSide (l : Bool) : receiveSide (armArb l s) = receiveSide s := by
  unfold armArb
  split
  · rfl
  · split
    · exact encodeStart_receiveSide s
    · rfl

theorem armTxBit_receiveSide (ts : Stamp) : receiveSide (armTxBit ts s) = receiveSide s := by
  unfold armTxBit txElemDone
  split
  · rfl
  · split
    · exact sendNextBit_receiveSide s
    · exact advanceTx_receiveSide s ts

theorem measureSlot_receiveSide (l : Bool) : receiveSide (measureSlot l s) = receiveSide s := by
  obtain ⟨_, _, h⟩ := measureSlot_eq (s := s) l
  rw [h]
  rfl

theorem slotTick_receiveSide (f : FieldCode) (ts : Stamp) : receiveSide (slotTick f ts s) = receiveSide s := by
  unfold slotTick
  split
  · split
    · exact advanceTx_receiveSide s ts
    · exact txEnd_receiveSide s _ _ _ ts
  · rfl

theorem armTxAck_receiveSide (l : Bool) (ts : Stamp) : receiveSide (armTxAck l ts s) = receiveSide s := by
  unfold armTxAck
  split
  · exact raise_receiveSide s _
  · split
    · exact txEnd_receiveSide s _ _ _ ts
    · exact (slotTick_receiveSide _ _ ts).trans (measureSlot_receiveSide s l)

/-! ## The tick -/

variable {s}

/-- An arm of the transmit pass leaves the receiver's record alone (40_step.md R89). -/
theorem arm_receiveSide (h : s.phase = .arb ∨ s.phase = .txBit ∨ s.phase = .txAck) (l : Bool) (ts : Stamp) :
    receiveSide (arm l ts s) = receiveSide s := by
  obtain h | h | h := h <;> simp only [arm, h]
  · exact armArb_receiveSide s l
  · exact armTxBit_receiveSide s ts
  · exact armTxAck_receiveSide s l ts

/-- A tick of the transmit pass leaves it alone too: the watchdog and the tick number are no part of it. -/
theorem tick_receiveSide (h : s.phase = .arb ∨ s.phase = .txBit ∨ s.phase = .txAck) (ext : Bool) (ts : Stamp) :
    receiveSide (tick ext ts s) = receiveSide s :=
  arm_receiveSide (s := watchdog s) h (lineOf ext s) ts

end Sys2Proof.Machine

open Sys2Proof Sys2Proof.Machine

/-- Settles O51: the receiver's record through each operation of the transmit pass (`tick_receiveSide`), and
TX_PENDING, which only a tick in IDLE takes (`tick_txPending`). -/
theorem transmitPassKeepsFrame : Obligations.TransmitPassKeepsFrame := by
  rintro s ext ts t hphase rfl
  obtain ⟨hframe, hrx, hforme⟩ := receiveSide_eq_iff.mp (tick_receiveSide hphase ext ts)
  have hidle : s.phase ≠ .idle := by
    obtain h | h | h := hphase <;> simp [h]
  have hpending : (tick ext ts s).txPending = s.txPending := by
    simp [tick_txPending, hidle]
  exact ⟨hframe, hrx, hforme, hpending⟩

end

section
/-! The watchdog is kicked by the watchdog's update alone: no operation of the block adds a kick to the events. One
lemma per operation, in the order of Sys2Proof/Machine/; then what a tick does to WDTCNT and to the kicks. -/

namespace Sys2Proof.Machine

/-! ## Counting kicks -/

@[simp] theorem kickCount_nil : kickCount [] = 0 := rfl

@[simp] theorem kickCount_cons (x : Nat × Event) (xs : List (Nat × Event)) :
    kickCount (x :: xs) = kickCount xs + if x.2 = .wdtKick then 1 else 0 := by
  by_cases h : x.2 = .wdtKick <;> simp [kickCount, h]

@[simp] theorem kickCount_append (xs ys : List (Nat × Event)) :
    kickCount (xs ++ ys) = kickCount xs + kickCount ys := by
  simp [kickCount]

@[simp] theorem kickCount_stamped (t : Nat) (es : List Event) : kickCount (stamped t es) = es.count .wdtKick := by
  induction es with
  | nil => rfl
  | cons e es ih => simp [ih, List.count_cons]

@[simp] theorem rxEndEvents_count_wdtKick (k : RxKind) (r : Reg16) (b : Bool) :
    (rxEndEvents k r b).count .wdtKick = 0 := by
  unfold rxEndEvents
  split <;> simp

@[simp] theorem txEndEvents_count_wdtKick (k : TxKind) (r : Reg16) (b : Bool) (fr : FrameBuf) :
    (txEndEvents k r b fr).count .wdtKick = 0 := by
  cases k <;> cases b <;> simp [txEndEvents]

variable (s : State)

/-! ## The operations that emit nothing -/

@[simp] theorem encodeWord_events (f : FieldCode) : (encodeWord f s).events = s.events := by
  unfold encodeWord
  split <;> simp

@[simp] theorem encodeParity_events : (encodeParity s).events = s.events := rfl

@[simp] theorem enterElem_events (e : Elem) (d : Byte) : (enterElem e d s).events = s.events := by
  unfold enterElem
  split <;> rfl

@[simp] theorem advanceRx_events : (advanceRx s).1.events = s.events := by
  unfold advanceRx
  split <;> simp

@[simp] theorem deliverVal_events (f : FieldCode) (b : Bool) : (deliverVal f b s).1.events = s.events := by
  unfold deliverVal
  split
  · split <;> simp
  · simp

@[simp] theorem afterBit_events (b : Bool) (w : Nat) : (afterBit b w s).events = s.events := by
  unfold afterBit
  split <;> rfl

@[simp] theorem armRxRemain_events : (armRxRemain s).events = s.events := by
  unfold armRxRemain
  split <;> rfl

@[simp] theorem startHostTx_events : (startHostTx s).events = s.events := by
  obtain ⟨_, h⟩ | ⟨_, h⟩ := startHostTx_cases s <;> rw [h]
  rfl

@[simp] theorem armArb_events (l : Bool) : (armArb l s).events = s.events := by
  unfold armArb
  split
  · rfl
  · split <;> simp

@[simp] theorem measureSlot_events (l : Bool) : (measureSlot l s).events = s.events := by
  obtain ⟨_, _, h⟩ := measureSlot_eq (s := s) l
  rw [h]

@[simp] theorem armIdle_events (l : Bool) : (armIdle l s).events = s.events := by
  unfold armIdle
  split
  · simp
  · split <;> rfl

/-! ## The receive pass -/

@[simp] theorem kickCount_conclude : kickCount (conclude s).events = kickCount s.events := by
  obtain ⟨_, h⟩ | ⟨_, _, h⟩ | ⟨_, _, h⟩ := conclude_cases s <;> simp [h]

@[simp] theorem kickCount_ackDone (ts : Stamp) : kickCount (ackDone ts s).1.events = kickCount s.events := by
  obtain ⟨_, h⟩ | ⟨_, _, h⟩ | ⟨_, _, _, _, h⟩ := ackDone_cases ts s <;> simp [h, rxFinish]

@[simp] theorem kickCount_deliverPar (f : FieldCode) (b : Bool) :
    kickCount (deliverPar f b s).1.events = kickCount s.events := by
  obtain ⟨_, h⟩ | ⟨_, _, _, h⟩ | ⟨_, _, h⟩ := deliverPar_cases f b s <;> simp [h, parityError]

@[simp] theorem kickCount_rxDeliver (b : Bool) (ts : Stamp) :
    kickCount (rxDeliver b ts s).1.events = kickCount s.events := by
  unfold rxDeliver
  split <;> simp

@[simp] theorem kickCount_countOrTimeout (f : FieldCode) :
    kickCount (countOrTimeout f s).events = kickCount s.events := by
  unfold countOrTimeout
  split <;> simp

/-- What follows a delivered symbol emits nothing. -/
theorem ifContinues_events {r : State × Bool} {next : State → State} (hnext : ∀ u, (next u).events = u.events) :
    (ifContinues r next).events = r.1.events := by
  unfold ifContinues
  split
  · exact hnext _
  · rfl

theorem kickCount_armStartMeas (l : Bool) : kickCount (armStartMeas l s).events = kickCount s.events := by
  unfold armStartMeas
  split
  · simp
  · split <;> simp [rejectStart]

theorem kickCount_armRxWaithigh (l : Bool) : kickCount (armRxWaithigh l s).events = kickCount s.events := by
  unfold armRxWaithigh
  split
  · simp
  · split
    · split <;> rfl
    · simp

theorem kickCount_armRxMeas (l : Bool) (ts : Stamp) : kickCount (armRxMeas l ts s).events = kickCount s.events := by
  unfold armRxMeas
  split
  · simp
  · split
    · simp
    · rw [ifContinues_events (afterBit_events · _ _), kickCount_rxDeliver]

theorem kickCount_armRxAckdrive (ts : Stamp) : kickCount (armRxAckdrive ts s).events = kickCount s.events := by
  unfold armRxAckdrive
  split
  · rfl
  · simp [ifContinues_events]

/-! ## The transmit pass -/

@[simp] theorem kickCount_beginTxSymbol (e : Elem) (ts : Stamp) :
    kickCount (beginTxSymbol e ts s).events = kickCount s.events := by
  unfold beginTxSymbol
  split <;> simp

@[simp] theorem kickCount_beginAck (ts : Stamp) : kickCount (beginAck ts s).events = kickCount s.events := by
  obtain h | h | ⟨_, _, _, h⟩ := beginAck_cases ts s <;> simp [h]

@[simp] theorem kickCount_beginTxElem (e : Elem) (ts : Stamp) :
    kickCount (beginTxElem e ts s).events = kickCount s.events := by
  unfold beginTxElem
  split <;> simp

@[simp] theorem kickCount_advanceTx (ts : Stamp) : kickCount (advanceTx ts s).events = kickCount s.events := by
  obtain ⟨_, h⟩ | ⟨_, _, _, h⟩ := advanceTx_cases ts s <;> simp [h]

theorem kickCount_armTxBit (ts : Stamp) : kickCount (armTxBit ts s).events = kickCount s.events := by
  unfold armTxBit txElemDone
  split
  · rfl
  · split <;> simp

@[simp] theorem kickCount_slotTick (f : FieldCode) (ts : Stamp) :
    kickCount (slotTick f ts s).events = kickCount s.events := by
  unfold slotTick
  split
  · split <;> simp
  · rfl

theorem kickCount_armTxAck (l : Bool) (ts : Stamp) : kickCount (armTxAck l ts s).events = kickCount s.events := by
  unfold armTxAck
  split
  · simp
  · split <;> simp

/-! ## The tick -/

/-- No arm kicks the watchdog (40_step.md R93). -/
theorem kickCount_arm (l : Bool) (ts : Stamp) : kickCount (arm l ts s).events = kickCount s.events := by
  unfold arm
  split
  · rw [armIdle_events]
  · exact kickCount_armStartMeas s l
  · exact kickCount_armRxWaithigh s l
  · exact kickCount_armRxMeas s l ts
  · rw [armRxRemain_events]
  · exact kickCount_armRxAckdrive s ts
  · rw [armArb_events]
  · exact kickCount_armTxBit s ts
  · exact kickCount_armTxAck s l ts

/-- After the watchdog's own events a tick adds events of the arm, none of them a kick. -/
theorem tick_events_after_watchdog (ext : Bool) (ts : Stamp) :
    ∃ es, (tick ext ts s).events = (watchdog s).events ++ es ∧ kickCount es = 0 := by
  obtain ⟨es, hes⟩ : (watchdog s).events <+: (tick ext ts s).events :=
    (arm_keeps (watchdog s) (lineOf ext s) ts).events
  have hcount : kickCount (tick ext ts s).events = kickCount (watchdog s).events := kickCount_arm _ _ _
  rw [← hes, kickCount_append] at hcount
  exact ⟨es, hes.symm, by omega⟩

/-- WDTCNT goes up in an IDLE tick without a kick and is cleared in every other tick (40_step.md R93). -/
theorem watchdog_wdtcnt_of_kicks :
    (watchdog s).wdtcnt = if s.phase = .idle ∧ kicks s = false then s.wdtcnt + 1 else 0 := by
  cases hk : kicks s <;> simp [hk]

/-- The watchdog's own events are its kick, if there is one. -/
theorem watchdog_events_of_kicks :
    (watchdog s).events = s.events ++ if kicks s then [(s.time, .wdtKick)] else [] := by
  cases hk : kicks s <;> simp [hk]

theorem kicks_eq : kicks s = decide (s.phase = .idle ∧ s.wdtcnt + 1 = s.par.wdtKickInterval) :=
  (Bool.decide_and _ _).symm

end Sys2Proof.Machine

open Sys2Proof Sys2Proof.Machine

/-- Settles O53: WDTCNT after a tick is as the watchdog's update leaves it (`tick_wdtcnt`), the kick is the first event
of the tick, and what the arm adds holds none (`tick_events_after_watchdog`). -/
theorem watchdogKicks : Obligations.WatchdogKicks := by
  intro s ext ts
  obtain ⟨es, hevents, hnone⟩ := tick_events_after_watchdog s ext ts
  simp only [← kicks_eq]
  rw [tick_wdtcnt, watchdog_wdtcnt_of_kicks, hevents, watchdog_events_of_kicks]
  exact ⟨rfl, es, rfl, hnone⟩

end

section
/-! The step of the machine at an input, the IDLE step, and runs of IDLE steps on a quiet line. -/

namespace Sys2Proof.Machine

/-! ## A state with FAULT set -/

/-- Every row is an update that a running block makes (40_step.md R94). -/
theorem exec_eq_live (i : Instr) : ∃ f, ∀ s, exec i s = live s f := by
  cases hrow : isHostRow i with
  | false =>
    obtain ⟨ss, hss⟩ := exec_wireRow i hrow
    exact ⟨driveSymbols ss, hss⟩
  | true =>
    obtain ⟨f, hf, _⟩ := exec_hostRow i hrow
    exact ⟨f, hf⟩

theorem exec_of_fault {s : State} {r : Fault} (h : s.fault = some r) (i : Instr) : exec i s = .fault r := by
  obtain ⟨f, hf⟩ := exec_eq_live i
  rw [hf, live_some h]

theorem step_of_fault {s : State} {r : Fault} (h : s.fault = some r) : step s = .fault r := by
  simp [step, h]

/-! ## The step at each kind of input -/

section

variable {s : State} (hfault : s.fault = none)

include hfault

theorem step_nil (h : s.feed = []) : step s = .next (freeTick s) := by
  simp [step, hfault, h]

theorem step_cycle {r : TickIn} {rest : List Input} (h : s.feed = .cycle r :: rest) :
    step s = .next (nextTick r { s with feed := rest }) := by
  simp [step, hfault, h]

theorem step_ticks {n : Nat} {rest : List Input} (h : s.feed = .ticks n :: rest) :
    step s = .next (passTicks n rest s) := by
  simp [step, hfault, h]

theorem step_wait {e : EventName} {rest : List Input} (h : s.feed = .wait e :: rest) :
    step s = .next (awaitEvent e rest s) := by
  simp [step, hfault, h]

end

/-! ## WAIT -/

theorem tick_feed (s : State) (ext : Bool) (ts : Stamp) : (tick ext ts s).feed = s.feed :=
  congrArg HostSide.feed (tick_hostSide s ext ts)

theorem emittedIn_iff (t : Nat) (e : EventName) (es : List (Nat × Event)) :
    emittedIn t e es = true ↔ ∃ x, x ∈ es ∧ x.1 = t ∧ eventName x.2 = e := by
  simp [emittedIn]

/-- But for the feed, WAIT is one free tick. -/
theorem awaitEvent_with_feed (e : EventName) (rest : List Input) (s : State) :
    { awaitEvent e rest s with feed := s.feed } = freeTick s := by
  have hfeed : (freeTick s).feed = s.feed := tick_feed s _ _
  unfold awaitEvent
  rw [← hfeed]

/-- WAIT is over or stays scheduled as it is. -/
theorem awaitEvent_feed_cases (e : EventName) (rest : List Input) (s : State) :
    (awaitEvent e rest s).feed = rest ∨ (awaitEvent e rest s).feed = .wait e :: rest := by
  unfold awaitEvent
  split
  · exact .inl rfl
  · exact .inr rfl

/-- WAIT is over exactly where its tick emitted the event (log 16). -/
theorem awaitEvent_feed_eq_rest_iff (e : EventName) (rest : List Input) (s : State) :
    (awaitEvent e rest s).feed = rest ↔ emittedIn s.time e (awaitEvent e rest s).events = true := by
  simp [awaitEvent]

/-! ## The IDLE step -/

section

variable {s : State} (hphase : s.phase = .idle)

include hphase

theorem tick_idle (ext : Bool) (ts : Stamp) :
    tick ext ts s = { armIdle (lineOf ext s) (watchdog s) with time := s.time + 1 } := by
  simp [tick, arm, hphase]

theorem tick_idle_pending (hpending : s.txPending = true) (ext : Bool) (ts : Stamp) :
    tick ext ts s = { startHostTx { watchdog s with txPending := false } with time := s.time + 1 } := by
  simp [tick_idle hphase, armIdle, hpending]

theorem tick_idle_high (hpending : s.txPending = false) {ext : Bool} (hline : lineOf ext s = true) (ts : Stamp) :
    tick ext ts s = { watchdog s with phase := .startMeas, cnt := 1, time := s.time + 1 } := by
  simp [tick_idle hphase, armIdle, hpending, hline]

theorem tick_idle_low (hpending : s.txPending = false) {ext : Bool} (hline : lineOf ext s = false) (ts : Stamp) :
    tick ext ts s = { watchdog s with time := s.time + 1 } := by
  simp [tick_idle hphase, armIdle, hpending, hline]

end

/-! ## Runs on a quiet line -/

/-- A running block in IDLE with nothing pending and its watchdog's count below the interval (40_step.md R92, R96). -/
structure QuietIdle (s : State) : Prop where
  fault : s.fault = none
  phase : s.phase = .idle
  busOut : s.busOut = false
  txPending : s.txPending = false
  wdtcnt : s.wdtcnt.toNat < s.par.wdtKickInterval.toNat

/-- From s to t the watchdog has counted n ticks, kicking each time it reached the interval, and nothing else has
happened but the passing of those ticks (40_step.md R93). -/
structure WatchdogCounted (n : Nat) (s t : State) : Prop where
  wdtcnt : t.wdtcnt.toNat = (s.wdtcnt.toNat + n) % s.par.wdtKickInterval.toNat
  kicks : kickCount t.events = kickCount s.events + (s.wdtcnt.toNat + n) / s.par.wdtKickInterval.toNat
  events : passEvents t.events = passEvents s.events
  frame : { t with wdtcnt := s.wdtcnt, events := s.events } = { s with time := s.time + n }

theorem WatchdogCounted.refl {s : State} (h : s.wdtcnt.toNat < s.par.wdtKickInterval.toNat) :
    WatchdogCounted 0 s s where
  wdtcnt := (Nat.mod_eq_of_lt h).symm
  kicks := by simp [Nat.div_eq_of_lt h]
  events := rfl
  frame := rfl

/-- Counting a ticks and then n more fills the interval k as often as counting them together. -/
theorem div_add_mod_add_div (a n k : Nat) : a / k + (a % k + n) / k = (a + n) / k := by
  obtain rfl | hk := Nat.eq_zero_or_pos k
  · simp
  · calc a / k + (a % k + n) / k = (a % k + n + k * (a / k)) / k := by rw [Nat.add_mul_div_left _ _ hk, Nat.add_comm]
      _ = (a + n) / k := by rw [Nat.add_right_comm, Nat.mod_add_div]

theorem WatchdogCounted.par_eq {n : Nat} {s t : State} (h : WatchdogCounted n s t) : t.par = s.par :=
  (congrArg State.par h.frame :)

theorem WatchdogCounted.trans {m n : Nat} {s t u : State} (h : WatchdogCounted m s t) (h' : WatchdogCounted n t u) :
    WatchdogCounted (m + n) s u := by
  have hpar := h.par_eq
  have htime : t.time = s.time + m := (congrArg State.time h.frame :)
  refine ⟨?_, ?_, h'.events.trans h.events, ?_⟩
  · rw [h'.wdtcnt, hpar, h.wdtcnt, Nat.mod_add_mod, Nat.add_assoc]
  · rw [h'.kicks, hpar, h.wdtcnt, h.kicks, Nat.add_assoc, div_add_mod_add_div, Nat.add_assoc]
  · calc { u with wdtcnt := s.wdtcnt, events := s.events }
        = { t with wdtcnt := s.wdtcnt, events := s.events, time := t.time + n } :=
          congrArg (fun v : State => { v with wdtcnt := s.wdtcnt, events := s.events }) h'.frame
      _ = { s with time := t.time + n } := congrArg (fun v : State => { v with time := t.time + n }) h.frame
      _ = { s with time := s.time + (m + n) } := by rw [htime, Nat.add_assoc]

section

variable {s : State} (hphase : s.phase = .idle)

include hphase

/-- Below the interval the count does not wrap, so IDLE kicks where the interval is full. -/
theorem kicks_iff_of_idle (h : s.wdtcnt.toNat < s.par.wdtKickInterval.toNat) :
    kicks s = true ↔ s.wdtcnt.toNat + 1 = s.par.wdtKickInterval.toNat := by
  have hkicks : kicks s = true ↔ s.wdtcnt + 1 = s.par.wdtKickInterval := by simp [kicks, hphase]
  rw [hkicks]
  bv_omega

/-- The watchdog's update in IDLE counts one tick. -/
theorem watchdogCounted_one (h : s.wdtcnt.toNat < s.par.wdtKickInterval.toNat) :
    WatchdogCounted 1 s { watchdog s with time := s.time + 1 } := by
  have hiff := kicks_iff_of_idle hphase h
  cases hk : kicks s with
  | true =>
    have hfull := hiff.mp hk
    refine ⟨?_, ?_, ?_, rfl⟩
    · simp [hk, hfull]
    · simp [hk, hfull, Nat.div_self (Nat.zero_lt_of_lt h)]
    · simp [hk, passEvents]
  | false =>
    have hlt : s.wdtcnt.toNat + 1 < s.par.wdtKickInterval.toNat := by
      have hne : s.wdtcnt.toNat + 1 ≠ s.par.wdtKickInterval.toNat := fun hfull => by
        rw [hiff.mpr hfull] at hk
        cases hk
      omega
    refine ⟨?_, ?_, ?_, rfl⟩
    · have hwdt : (watchdog s).wdtcnt = s.wdtcnt + 1 := by
        rw [watchdog_wdtcnt_of_kicks, if_pos ⟨hphase, hk⟩]
      rw [Nat.mod_eq_of_lt hlt, hwdt]
      bv_omega
    · simp [hk, Nat.div_eq_of_lt hlt]
    · simp [hk]

end

/-- A low tick of a quiet block is one tick counted. -/
theorem QuietIdle.tick_counted {s : State} (h : QuietIdle s) (ts : Stamp) :
    WatchdogCounted 1 s (tick false ts s) := by
  rw [tick_idle_low h.phase h.txPending (by simp [lineOf, h.busOut])]
  exact watchdogCounted_one h.phase h.wdtcnt

/-- Counting ticks leaves a quiet block quiet. -/
theorem QuietIdle.of_counted {s t : State} {n : Nat} (h : QuietIdle s) (ht : WatchdogCounted n s t) : QuietIdle t where
  fault := (congrArg State.fault ht.frame :).trans h.fault
  phase := (congrArg State.phase ht.frame :).trans h.phase
  busOut := (congrArg State.busOut ht.frame :).trans h.busOut
  txPending := (congrArg State.txPending ht.frame :).trans h.txPending
  wdtcnt := by
    rw [ht.wdtcnt, ht.par_eq]
    exact Nat.mod_lt _ (Nat.zero_lt_of_lt h.wdtcnt)

theorem QuietIdle.drive_counted {s : State} (h : QuietIdle s) (n : Nat) :
    WatchdogCounted n s (drive (List.replicate n false) s) := by
  induction n generalizing s with
  | zero => exact .refl h.wdtcnt
  | succ n ih =>
    have htick := h.tick_counted (Config.tsIn s.time)
    rw [List.replicate_succ, drive_cons h.fault, Nat.add_comm]
    exact htick.trans (ih (h.of_counted htick))

end Sys2Proof.Machine

open Sys2Proof Sys2Proof.Machine

/-- Settles O54: a quiet block stays quiet, so the ticks are counted one after another (`QuietIdle.drive_counted`). -/
theorem quietIdleKicksEveryInterval : Obligations.QuietIdleKicksEveryInterval := by
  intro s n hfault hphase hline hpending hwdt
  obtain ⟨hcount, hkicks, hevents, hframe⟩ := QuietIdle.drive_counted ⟨hfault, hphase, hline, hpending, hwdt⟩ n
  exact ⟨_, rfl, hcount, hkicks, hevents, hframe⟩

/-- Settles O14: `step_cycle`, `step_nil`, `step_ticks` and `step_wait`, with what a directive does to the feed. -/
theorem scheduledTicksPass : Obligations.ScheduledTicksPass := by
  intro s rest hfault
  refine ⟨fun ext ops ts hfeed => ?_, step_nil hfault, fun hfeed hop => ?_, fun e hfeed => ?_⟩
  · rw [step_cycle hfault hfeed]
    rfl
  · have hnone : ticksToPass 0 s = 0 := ticksToPass_of_ne hop
    rw [step_ticks hfault hfeed]
    simp [passTicks, hnone]
  · refine ⟨awaitEvent e rest s, step_wait hfault hfeed, awaitEvent_with_feed e rest s, ?_,
      awaitEvent_feed_cases e rest s⟩
    rw [awaitEvent_feed_eq_rest_iff, emittedIn_iff]

/-- Settles O18: `step` asks for FAULT first, and so does every row's meaning (`exec_eq_live`). -/
theorem faultSetHasNoStep : Obligations.FaultSetHasNoStep :=
  fun _ _ h => ⟨step_of_fault h, exec_of_fault h⟩

/-- Settles O32: the three branches of the IDLE arm; with BUS_OUT = 0 the line is what the other nodes drive. -/
theorem idleTakesPendingThenPolls : Obligations.IdleTakesPendingThenPolls := by
  intro s ext ts hphase hbus
  have hline : lineOf ext s = ext := by simp [lineOf, hbus]
  exact ⟨fun hpending => tick_idle_pending hphase hpending ext ts,
    fun hpending hext => tick_idle_high hphase hpending (hline.trans hext) ts,
    fun hpending hext => tick_idle_low hphase hpending (hline.trans hext) ts⟩

end

section
/-! Parity: the XOR of the low n bits of a value, bit by bit and by the number of 1 bits. -/

namespace Sys2Proof.Machine

/-- The number of 1 bits decides the XOR of a list of bits (41_bitcodec.md R102). -/
theorem foldl_xor_eq (bs : List Bool) (a : Bool) :
    bs.foldl (· ^^ ·) a = (a ^^ decide ((bs.filter id).length % 2 = 1)) := by
  induction bs generalizing a with
  | nil => simp
  | cons b bs ih =>
    rw [List.foldl_cons, ih]
    cases b with
    | false => simp
    | true =>
      obtain h | h := Nat.mod_two_eq_zero_or_one (bs.filter id).length <;> simp [Nat.add_mod, h]

/-- The XOR of the low n bits of a value: what PAR accumulates over n bits (41_bitcodec.md R100, R106). -/
def lowParity {w : Nat} (v : BitVec w) (n : Nat) : Bool := (msbFirst v n).foldl (· ^^ ·) false

section

variable {w : Nat}

@[simp] theorem lowParity_zero (v : BitVec w) : lowParity v 0 = false := rfl

@[simp] theorem lowParity_succ (v : BitVec w) (n : Nat) :
    lowParity v (n + 1) = (v.getLsbD n ^^ lowParity v n) := by
  simp [lowParity, msbFirst, foldl_xor_eq]

/-- Bits above the m-th that are all 0 do not count. -/
theorem lowParity_eq_of_high_zero {v : BitVec w} {m n : Nat} (hmn : m ≤ n)
    (hzero : ∀ i, m ≤ i → v.getLsbD i = false) : lowParity v n = lowParity v m := by
  obtain ⟨k, rfl⟩ := Nat.exists_eq_add_of_le hmn
  clear hmn
  induction k with
  | zero => rfl
  | succ k ih => rw [← Nat.add_assoc, lowParity_succ, hzero (m + k) (Nat.le_add_right m k), ih, Bool.false_xor]

theorem lowParity_setWidth (v : BitVec w) {m n : Nat} (hmn : m ≤ n) :
    lowParity (v.setWidth n) m = lowParity v m := by
  induction m with
  | zero => rfl
  | succ m ih =>
    have hm : m < n := hmn
    simp [ih (Nat.le_of_lt hm), hm]

theorem lowParity_xor (a b : BitVec w) (n : Nat) :
    lowParity (a ^^^ b) n = (lowParity a n ^^ lowParity b n) := by
  induction n with
  | zero => rfl
  | succ n ih =>
    rw [lowParity_succ, lowParity_succ, lowParity_succ, ih, BitVec.getLsbD_xor, Bool.xor_assoc, Bool.xor_assoc,
      Bool.xor_left_comm (b.getLsbD n)]

theorem parityOf_eq_odd (v : BitVec w) : parityOf v = decide (((msbFirst v w).filter id).length % 2 = 1) := by
  rw [parityOf, foldl_xor_eq, Bool.false_xor]

theorem parityOf_zero : parityOf (0 : BitVec w) = false :=
  lowParity_eq_of_high_zero (Nat.zero_le w) fun i _ => by simp

theorem parityOf_setWidth {n : Nat} (v : BitVec w) (h : w ≤ n) : parityOf (v.setWidth n) = parityOf v := by
  have hzero : ∀ i, w ≤ i → (v.setWidth n).getLsbD i = false := fun i hi => by simp [hi]
  calc parityOf (v.setWidth n) = lowParity (v.setWidth n) w := lowParity_eq_of_high_zero h hzero
    _ = parityOf v := lowParity_setWidth v h

/-- A value with its parity bit has an even number of 1 bits. -/
theorem even_with_parity (v : BitVec w) : ((msbFirst v w ++ [parityOf v]).filter id).length % 2 = 0 := by
  obtain h | h := Nat.mod_two_eq_zero_or_one ((msbFirst v w).filter id).length <;>
    simp [parityOf_eq_odd, h, Nat.add_mod]

end

end Sys2Proof.Machine

open Sys2Proof Sys2Proof.Machine

/-- Settles O56: the XOR of the bits by their number (`parityOf_eq_odd`) and bit by bit (`lowParity_xor`,
`parityOf_setWidth`); the values by evaluation. -/
theorem parityLaws : Obligations.ParityLaws :=
  ⟨fun _ => parityOf_eq_odd, fun _ => parityOf_zero, fun w a b => lowParity_xor a b w,
    fun _ _ => parityOf_setWidth, fun _ => even_with_parity, rfl, rfl, rfl, rfl, rfl, rfl, rfl⟩

end

section
/-! The sender: the ticks of a symbol, and what a bit, a value and a field put on the line whatever the line shows
meanwhile (41_bitcodec.md R98 to R101, R111). -/

namespace Sys2Proof.Machine

/-! ## Ticks outside IDLE -/

/-- Outside IDLE the watchdog's update clears WDTCNT and emits nothing (40_step.md R93). -/
theorem watchdog_of_ne_idle {s : State} (h : s.phase ≠ .idle) : watchdog s = { s with wdtcnt := 0 } := by
  simp [watchdog, kicks, h]

theorem tick_of_ne_idle {s : State} (h : s.phase ≠ .idle) (ext : Bool) (ts : Stamp) :
    tick ext ts s = { arm (lineOf ext s) ts { s with wdtcnt := 0 } with time := s.time + 1 } := by
  rw [tick, watchdog_of_ne_idle h]

theorem sat16_toNat (n : Nat) : (sat16 n).toNat = min n 65535 :=
  Nat.mod_eq_of_lt (Nat.lt_of_le_of_lt (Nat.min_le_right _ _) (by decide))

/-- Counting one more sample of n. -/
theorem satInc_sat16 (n : Nat) : satInc (sat16 n) = sat16 (n + 1) := by
  rw [satInc, sat16_toNat, sat16, sat16]
  congr 1
  omega

/-! ## The ticks of a symbol that is sent -/

section

variable {s : State}

theorem tick_txBit (h : s.phase = .txBit) (ext : Bool) (ts : Stamp) :
    tick ext ts s = { armTxBit ts { s with wdtcnt := 0 } with time := s.time + 1 } := by
  rw [tick_of_ne_idle (by simp [h])]
  simp [arm, h]

theorem tick_txBit_inside (h : s.phase = .txBit) (hin : s.cnt.toNat + 1 < s.per.toNat) (ext : Bool) (ts : Stamp) :
    tick ext ts s = { s with
      cnt := satInc s.cnt
      busOut := decide (s.cnt.toNat + 1 < s.hold.toNat)
      wdtcnt := 0
      time := s.time + 1 } := by
  rw [tick_txBit h, armTxBit, if_pos hin]

theorem tick_txBit_last (h : s.phase = .txBit) (hlast : s.per.toNat ≤ s.cnt.toNat + 1) (ext : Bool) (ts : Stamp) :
    tick ext ts s = { txElemDone ts { s with wdtcnt := 0 } with time := s.time + 1 } := by
  rw [tick_txBit h, armTxBit, if_neg (Nat.not_lt.mpr hlast)]

end

/-- A sender in tick CNT of a symbol that is high for HOLD of its PER ticks (41_bitcodec.md R99). -/
structure InSymbol (s : State) : Prop where
  fault : s.fault = none
  phase : s.phase = .txBit
  cnt : s.cnt.toNat < s.per.toNat
  hold : s.hold.toNat < s.per.toNat
  busOut : s.busOut = decide (s.cnt.toNat < s.hold.toNat)

/-- The same sender in the symbol's last tick. -/
def symbolEnd (s : State) : State :=
  { s with
    cnt := BitVec.ofNat 16 (s.per.toNat - 1)
    busOut := false
    wdtcnt := 0
    time := s.time + (s.per.toNat - 1 - s.cnt.toNat) }

namespace InSymbol

variable {s : State} (h : InSymbol s)

include h

/-- Inside a symbol the counter is far from saturation. -/
theorem satInc_cnt : (satInc s.cnt).toNat = s.cnt.toNat + 1 := by
  have hcnt := h.cnt
  have hper := s.per.isLt
  rw [satInc_toNat]
  omega

theorem tick_inside (hin : s.cnt.toNat + 1 < s.per.toNat) (ext : Bool) (ts : Stamp) : InSymbol (tick ext ts s) := by
  rw [tick_txBit_inside h.phase hin]
  refine ⟨h.fault, h.phase, h.satInc_cnt ▸ hin, h.hold, ?_⟩
  exact congrArg (fun n => decide (n < s.hold.toNat)) h.satInc_cnt.symm

theorem symbolEnd_tick (hin : s.cnt.toNat + 1 < s.per.toNat) (ext : Bool) (ts : Stamp) :
    symbolEnd (tick ext ts s) = symbolEnd s := by
  have htime : s.time + 1 + (s.per.toNat - 1 - (s.cnt.toNat + 1)) = s.time + (s.per.toNat - 1 - s.cnt.toNat) := by
    omega
  rw [tick_txBit_inside h.phase hin]
  simp [symbolEnd, h.satInc_cnt, htime]

theorem symbolEnd_eq (hlast : s.cnt.toNat + 1 = s.per.toNat) : symbolEnd s = { s with wdtcnt := 0 } := by
  have hlow : s.busOut = false := by
    have hhold := h.hold
    rw [h.busOut]
    exact decide_eq_false (by omega)
  simp [symbolEnd, ← hlast, hlow]

/-- A sender reaches the symbol's last tick whatever the line does. -/
theorem drive_eq_symbolEnd {exts : List Bool} (hwdt : exts = [] → s.wdtcnt = 0)
    (hlen : s.cnt.toNat + exts.length + 1 = s.per.toNat) : drive exts s = symbolEnd s := by
  induction exts generalizing s with
  | nil => rw [drive_nil, h.symbolEnd_eq hlen, ← hwdt rfl]
  | cons e es ih =>
    have hin : s.cnt.toNat + 1 < s.per.toNat := by
      rw [List.length_cons] at hlen
      omega
    have htick := tick_txBit_inside h.phase hin e (Config.tsIn s.time)
    rw [drive_cons h.fault, ← h.symbolEnd_tick hin e (Config.tsIn s.time)]
    apply ih (h.tick_inside hin _ _)
    · intro _
      rw [htick]
    · rw [htick, h.satInc_cnt, ← hlen, List.length_cons]
      omega

end InSymbol

/-! ## What a sender puts on the line -/

/-- From s on the block puts the given levels on the line, tick by tick, whatever the line and the timestamp port do
meanwhile (41_bitcodec.md R111). -/
def Emits : List Bool → State → Prop
  | [], _ => True
  | b :: bs, s => s.fault = none ∧ s.busOut = b ∧ ∀ ext ts, Emits bs (tick ext ts s)

theorem Emits.busTrace_eq {bs : List Bool} {s : State} (h : Emits bs s) {exts : List Bool}
    (hlen : exts.length = bs.length) : busTrace exts s = bs := by
  induction exts generalizing bs s with
  | nil => exact (List.length_eq_zero_iff.mp hlen.symm).symm
  | cons e es ih =>
    cases bs with
    | nil => cases hlen
    | cons b bs =>
      obtain ⟨_, rfl, hnext⟩ := h
      rw [busTrace, ih (hnext _ _) (Nat.succ.inj hlen)]

/-- Two senders on one line put the OR of their levels on it (10_state.md R20). -/
theorem Emits.levelTrace_eq {as bs : List Bool} {a b : State} (ha : Emits as a) (hb : Emits bs b)
    (hlen : as.length = bs.length) (t : Nat) :
    levelTrace (List.replicate as.length false) t [a, b] = List.zipWith (· || ·) as bs := by
  induction as generalizing bs a b t with
  | nil => rfl
  | cons x xs ih =>
    cases bs with
    | nil => cases hlen
    | cons y ys =>
      obtain ⟨hfa, rfl, hna⟩ := ha
      obtain ⟨hfb, rfl, hnb⟩ := hb
      have htick : ∀ ts, busTick false ts [a, b] =
          [tick (busLevel false [a, b]) ts a, tick (busLevel false [a, b]) ts b] := fun ts => by
        simp [busTick, hfa, hfb]
      rw [List.length_cons, List.replicate_succ, levelTrace, htick,
        ih (hna _ _) (hnb _ _) (Nat.succ.inj hlen), List.zipWith_cons_cons]
      simp [busLevel]

/-- A symbol's levels: high for the first ticks, low for the rest (30_encoding.md R62 to R64). -/
def pulse (hold per : Nat) : List Bool := List.replicate hold true ++ List.replicate (per - hold) false

theorem pulse_length {hold per : Nat} (h : hold ≤ per) : (pulse hold per).length = per := by
  simp [pulse, h]

theorem pulse_getElem {hold per i : Nat} (hi : i < (pulse hold per).length) :
    (pulse hold per)[i] = decide (i < hold) := by
  by_cases h : i < hold <;> simp [pulse, List.getElem_append, h]

/-- The OR of two symbols of one period is the symbol of the longer pulse. -/
theorem zipWith_or_pulse {h₁ h₂ per : Nat} (hle₁ : h₁ ≤ per) (hle₂ : h₂ ≤ per) :
    List.zipWith (· || ·) (pulse h₁ per) (pulse h₂ per) = pulse (max h₁ h₂) per := by
  apply List.ext_getElem
  · have hle : max h₁ h₂ ≤ per := Nat.max_le.mpr ⟨hle₁, hle₂⟩
    rw [List.length_zipWith, pulse_length hle₁, pulse_length hle₂, pulse_length hle, Nat.min_self]
  · intro i _ _
    rw [List.getElem_zipWith, pulse_getElem, pulse_getElem, pulse_getElem]
    exact (Bool.decide_or _ _).symm.trans (decide_eq_decide.mpr (by omega))

namespace InSymbol

variable {s : State} (h : InSymbol s)

include h

theorem drop_pulse :
    (pulse s.hold.toNat s.per.toNat).drop s.cnt.toNat =
      s.busOut :: (pulse s.hold.toNat s.per.toNat).drop (s.cnt.toNat + 1) := by
  have hlt : s.cnt.toNat < (pulse s.hold.toNat s.per.toNat).length := by
    rw [pulse_length (Nat.le_of_lt h.hold)]
    exact h.cnt
  rw [List.drop_eq_getElem_cons hlt, pulse_getElem, h.busOut]

/-- The symbol's last tick does not depend on the watchdog's count. -/
theorem tick_symbolEnd (hlast : s.cnt.toNat + 1 = s.per.toNat) (ext : Bool) (ts : Stamp) :
    tick ext ts (symbolEnd s) = tick ext ts s := by
  rw [h.symbolEnd_eq hlast, tick_txBit_last h.phase (Nat.le_of_eq hlast.symm),
    tick_txBit_last (s := { s with wdtcnt := 0 }) h.phase (Nat.le_of_eq hlast.symm)]

/-- From tick CNT on a sender emits the rest of its symbol, and then whatever the next tick begins. -/
theorem emits {rest : List Bool}
    (hnext : ∀ ext ts, Emits rest (tick ext ts (symbolEnd s))) :
    Emits ((pulse s.hold.toNat s.per.toNat).drop s.cnt.toNat ++ rest) s := by
  obtain ⟨k, hk⟩ : ∃ k, s.cnt.toNat + k + 1 = s.per.toNat := by
    have hcnt := h.cnt
    exact ⟨s.per.toNat - s.cnt.toNat - 1, by omega⟩
  induction k generalizing s with
  | zero =>
    have hdrop : (pulse s.hold.toNat s.per.toNat).drop (s.cnt.toNat + 1) = [] :=
      List.drop_eq_nil_of_le (by rw [pulse_length (Nat.le_of_lt h.hold)]; omega)
    rw [h.drop_pulse, hdrop]
    refine ⟨h.fault, rfl, fun ext ts => ?_⟩
    rw [← h.tick_symbolEnd hk]
    exact hnext ext ts
  | succ k ih =>
    have hin : s.cnt.toNat + 1 < s.per.toNat := by omega
    rw [h.drop_pulse]
    refine ⟨h.fault, rfl, fun ext ts => ?_⟩
    have hrest := ih (h.tick_inside hin ext ts) (by rwa [h.symbolEnd_tick hin])
    rw [tick_txBit_inside h.phase hin] at hrest ⊢
    simp only [h.satInc_cnt] at hrest
    exact hrest (by omega)

end InSymbol

/-! ## What a sender of a bit, a value and a field puts on the line -/

theorem symbolWave_symbolOf (p : Params) (b : Bool) :
    symbolWave p (symbolOf b) = pulse (if b then p.t1High else p.t0High) p.tBit := by
  cases b <;> rfl

/-- On one line BIT1 and BIT0 together are a BIT0: the OR of two symbols carries the AND of their bits
(41_bitcodec.md R109). -/
theorem zipWith_or_symbolWave {p : Params} (h : p.SourceTiming) (a b : Bool) :
    List.zipWith (· || ·) (symbolWave p (symbolOf a)) (symbolWave p (symbolOf b)) =
      symbolWave p (symbolOf (a && b)) := by
  obtain ⟨h1, h0, hbit, _⟩ := h
  simp only [symbolWave_symbolOf, h1, h0, hbit]
  cases a <;> cases b <;> exact zipWith_or_pulse (by decide) (by decide)

theorem symbolWave_symbolOf_length {p : Params} (h : p.SourceTiming) (b : Bool) :
    (symbolWave p (symbolOf b)).length = 10 := by
  obtain ⟨h1, h0, hbit, _⟩ := h
  rw [symbolWave_symbolOf, h1, h0, hbit]
  exact pulse_length (by cases b <;> decide)

theorem wave_map_symbolOf_length {p : Params} (h : p.SourceTiming) (bs : List Bool) :
    (wave p (bs.map symbolOf)).length = 10 * bs.length := by
  induction bs with
  | nil => rfl
  | cons b bs ih =>
    rw [List.map_cons, wave_cons, List.length_append, symbolWave_symbolOf_length h, ih, List.length_cons]
    omega

theorem sentSymbols_wave_length {p : Params} (h : p.SourceTiming) (f : FieldCode) (v : BitVec 12) :
    (wave p (sentSymbols f v)).length = 10 * (sentSymbols f v).length := by
  have hsymbols : sentSymbols f v =
      (msbFirst v (fieldWidth f) ++ if hasParity f then [parityOf v] else []).map symbolOf := by
    cases hf : hasParity f <;> simp [sentSymbols, hf]
  rw [hsymbols, wave_map_symbolOf_length h, List.length_map]

/-- The same bit by bit over a value: the line carries the bitwise AND. -/
theorem zipWith_or_wave {p : Params} (h : p.SourceTiming) {w : Nat} (v₁ v₂ : BitVec w) (n : Nat) :
    List.zipWith (· || ·) (wave p ((msbFirst v₁ n).map symbolOf)) (wave p ((msbFirst v₂ n).map symbolOf)) =
      wave p ((msbFirst (v₁ &&& v₂) n).map symbolOf) := by
  induction n with
  | zero => rfl
  | succ n ih =>
    have hlen : (symbolWave p (symbolOf (v₁.getLsbD n))).length =
        (symbolWave p (symbolOf (v₂.getLsbD n))).length := by
      rw [symbolWave_symbolOf_length h, symbolWave_symbolOf_length h]
    simp only [msbFirst, List.map_cons, wave_cons]
    rw [List.zipWith_append hlen, zipWith_or_symbolWave h, ih, BitVec.getLsbD_and]

/-- The datapath's part of sending a bit: the next bit of SHIFT is taken into PAR (41_bitcodec.md R100). -/
def takeBit (s : State) : State :=
  { s with parity := s.parity ^^ s.shift.getLsbD (s.nbits.toNat - 1), nbits := s.nbits - 1 }

theorem sendNextBit_eq_emitBit (s : State) :
    sendNextBit s = emitBit (s.shift.getLsbD (s.nbits.toNat - 1)) (takeBit s) := rfl

section

variable {s : State} (hfault : s.fault = none) (htiming : s.par.SourceTiming)

include htiming

theorem emitBit_pulse (b : Bool) :
    pulse (emitBit b s).hold.toNat (emitBit b s).per.toNat = symbolWave s.par (symbolOf b) := by
  obtain ⟨h1, h0, hbit, _⟩ := htiming
  rw [symbolWave_symbolOf, emitBit_hold, emitBit_per, h1, h0, hbit]
  cases b <;> rfl

include hfault

/-- EmitBit puts a block at the first tick of its symbol (41_bitcodec.md R98). -/
theorem inSymbol_emitBit (b : Bool) : InSymbol (emitBit b s) := by
  obtain ⟨h1, h0, hbit, _⟩ := htiming
  have hper : (emitBit b s).per.toNat = 10 := by rw [emitBit_per, hbit]; rfl
  have hhold : (emitBit b s).hold.toNat = if b then 5 else 9 := by
    rw [emitBit_hold, h1, h0]
    cases b <;> rfl
  refine ⟨hfault, rfl, ?_, ?_, ?_⟩
  · rw [hper]
    exact Nat.zero_lt_succ 9
  · rw [hper, hhold]
    cases b <;> decide
  · rw [hhold]
    cases b <;> rfl

theorem emits_emitBit (b : Bool) {rest : List Bool}
    (hnext : ∀ ext ts, Emits rest (tick ext ts (symbolEnd (emitBit b s)))) :
    Emits (symbolWave s.par (symbolOf b) ++ rest) (emitBit b s) := by
  rw [← emitBit_pulse htiming b]
  exact (inSymbol_emitBit hfault htiming b).emits hnext

end

/-- A block on its way through the value of field f. -/
structure SendingValue (f : FieldCode) (s : State) : Prop where
  fault : s.fault = none
  timing : s.par.SourceTiming
  elem : s.elem = .el f .val

/-- A sender in the last tick of field f's value, its parity p accumulated (41_bitcodec.md R99, R101). -/
structure ValueSent (f : FieldCode) (p : Bool) (s : State) : Prop extends SendingValue f s where
  phase : s.phase = .txBit
  lastTick : s.per.toNat ≤ s.cnt.toNat + 1
  nbits : s.nbits = 0
  parity : s.parity = p

theorem txElemDone_more {s : State} {f : FieldCode} (helem : s.elem = .el f .val) (h : 0 < s.nbits.toNat)
    (ts : Stamp) : txElemDone ts s = sendNextBit s := by
  simp [txElemDone, moreBits, helem, h]

theorem txElemDone_value {s : State} {f : FieldCode} (helem : s.elem = .el f .val) (h : s.nbits = 0)
    (ts : Stamp) : txElemDone ts s = advanceTx ts s := by
  simp [txElemDone, moreBits, helem, h]

/-- After a value with a parity symbol comes that symbol (40_step.md R90). -/
theorem advanceTx_value {s : State} {f : FieldCode} (hf : hasParity f = true) (helem : s.elem = .el f .val)
    (ts : Stamp) : advanceTx ts s = encodeParity { s with elem := .el f .par } := by
  have hnext : nextElem s.elem s.didx s.frame.len = some (.el f .par, s.didx) := by
    rw [helem]
    cases f
    case none | start | mode => cases hf
    all_goals rfl
  simp [advanceTx, hnext, beginTxElem, beginTxSymbol]

/-- In the last tick of a symbol the count has come to PER. -/
theorem symbolEnd_lastTick (s : State) : (symbolEnd s).per.toNat ≤ (symbolEnd s).cnt.toNat + 1 := by
  have hper := s.per.isLt
  have hcnt : (symbolEnd s).cnt.toNat = s.per.toNat - 1 := Nat.mod_eq_of_lt (by omega)
  have hsame : (symbolEnd s).per = s.per := rfl
  rw [hcnt, hsame]
  omega

section

variable {s : State} {f : FieldCode} (h : SendingValue f s)

include h

/-- Where bits are still to come, the tick after a bit's symbol begins the next bit's (41_bitcodec.md R99). -/
theorem SendingValue.tick_more (hphase : s.phase = .txBit) (hlast : s.per.toNat ≤ s.cnt.toNat + 1)
    (hn : 0 < s.nbits.toNat) (ext : Bool) (ts : Stamp) :
    tick ext ts s = sendNextBit { s with wdtcnt := 0, time := s.time + 1 } := by
  rw [tick_txBit_last hphase hlast, txElemDone_more (s := { s with wdtcnt := 0 }) h.elem hn]
  rfl

theorem SendingValue.emits_bit {n : Nat} (hn : s.nbits.toNat = n + 1) {rest : List Bool}
    (hnext : ∀ ext ts, Emits rest (tick ext ts (symbolEnd (sendNextBit s)))) :
    Emits (symbolWave s.par (symbolOf (s.shift.getLsbD n)) ++ rest) (sendNextBit s) := by
  have hbit : s.shift.getLsbD (s.nbits.toNat - 1) = s.shift.getLsbD n := by rw [hn, Nat.add_sub_cancel]
  rw [sendNextBit_eq_emitBit, hbit] at hnext ⊢
  have hfault : (takeBit s).fault = none := h.fault
  exact emits_emitBit hfault h.timing _ hnext

/-- From a value's bit on, most significant first, a sender emits the bits still to come as symbols, and then
whatever the tick after the value begins. -/
theorem SendingValue.emits {n : Nat} (hn : s.nbits.toNat = n + 1) {rest : List Bool}
    (hnext : ∀ t, ValueSent f (s.parity ^^ lowParity s.shift (n + 1)) t → t.par = s.par →
      ∀ ext ts, Emits rest (tick ext ts t)) :
    Emits (wave s.par ((msbFirst s.shift (n + 1)).map symbolOf) ++ rest) (sendNextBit s) := by
  induction n generalizing s with
  | zero =>
    have hsent : ValueSent f (s.parity ^^ lowParity s.shift 1) (symbolEnd (sendNextBit s)) := by
      refine ⟨⟨h.fault, h.timing, h.elem⟩, rfl, symbolEnd_lastTick _, ?_, ?_⟩
      · change s.nbits - 1 = 0
        bv_omega
      · change (sendNextBit s).parity = _
        simp [hn]
    rw [msbFirst, List.map_cons, wave_cons, List.append_assoc]
    exact h.emits_bit hn fun ext ts => hnext _ hsent rfl ext ts
  | succ n ih =>
    rw [msbFirst, List.map_cons, wave_cons, List.append_assoc]
    refine h.emits_bit hn fun ext ts => ?_
    have hafter : SendingValue f (symbolEnd (sendNextBit s)) := ⟨h.fault, h.timing, h.elem⟩
    have hleft : (symbolEnd (sendNextBit s)).nbits.toNat = n + 1 := by
      change (s.nbits - 1).toNat = n + 1
      bv_omega
    have hparity : (symbolEnd (sendNextBit s)).parity = (s.parity ^^ s.shift.getLsbD (n + 1)) := by
      change (sendNextBit s).parity = _
      simp [hn]
    rw [hafter.tick_more rfl (symbolEnd_lastTick _) (hleft ▸ Nat.succ_pos n)]
    refine ih (s := { symbolEnd (sendNextBit s) with wdtcnt := _, time := _ }) ⟨h.fault, h.timing, h.elem⟩ hleft
      fun t ht => hnext t ?_
    rw [lowParity_succ, ← Bool.xor_assoc, ← hparity]
    exact ht

end

/-- After a value with a parity symbol comes that symbol, of the parity accumulated (41_bitcodec.md R101). -/
theorem ValueSent.tick_parity {f : FieldCode} {p : Bool} {s : State} (h : ValueSent f p s) (hf : hasParity f = true)
    (ext : Bool) (ts : Stamp) :
    tick ext ts s = emitBit p { s with elem := .el f .par, wdtcnt := 0, time := s.time + 1 } := by
  rw [tick_txBit_last h.phase h.lastTick, txElemDone_value (s := { s with wdtcnt := 0 }) h.elem h.nbits,
    advanceTx_value (s := { s with wdtcnt := 0 }) hf h.elem, ← h.parity]
  rfl

/-! ## What a sender of a field puts on the line -/

/-- A field's value is zero-extended to SHIFT's width (40_step.md R91). -/
theorem fieldValue_high_zero {fr : FrameBuf} {d : Byte} {f : FieldCode} {v : BitVec 12}
    (h : fieldValue fr d f = some v) {i : Nat} (hi : fieldWidth f ≤ i) : v.getLsbD i = false := by
  cases f
  case none | start => cases h
  case master | slave => exact BitVec.getLsbD_of_ge v i hi
  case mode | control | length =>
    cases h
    simp [fieldWidth] at hi
    simp [hi]
  case data =>
    obtain ⟨x, _, rfl⟩ := Option.map_eq_some_iff.mp h
    simp [fieldWidth] at hi
    simp [hi]

theorem parityOf_fieldValue {fr : FrameBuf} {d : Byte} {f : FieldCode} {v : BitVec 12}
    (h : fieldValue fr d f = some v) : parityOf v = lowParity v (fieldWidth f) := by
  have hle : fieldWidth f ≤ 12 := by cases f <;> decide
  exact lowParity_eq_of_high_zero hle fun i => fieldValue_high_zero h

/-- A field with a value has at least one bit. -/
theorem fieldWidth_pos_of_fieldValue {fr : FrameBuf} {d : Byte} {f : FieldCode} {v : BitVec 12}
    (h : fieldValue fr d f = some v) : 0 < fieldWidth f := by
  cases f
  case none | start => cases h
  all_goals decide

/-- A block with field f's value v in SHIFT, none of its bits sent (41_bitcodec.md R100). -/
def loadValue (f : FieldCode) (v : BitVec 12) (s : State) : State :=
  { s with elem := .el f .val, shift := v, parity := false, nbits := BitVec.ofNat 4 (fieldWidth f) }

theorem txAt_eq {s : State} {f : FieldCode} {v : BitVec 12} (h : fieldValue s.frame s.didx f = some v) :
    txAt f s = sendNextBit (loadValue f v s) := by
  simp [txAt, encodeWord, h, loadValue]

section

variable {s : State} {f : FieldCode} {v : BitVec 12} (hfault : s.fault = none) (htiming : s.par.SourceTiming)
  (hvalue : fieldValue s.frame s.didx f = some v)

include hfault htiming hvalue

/-- A sender at the first tick of a field emits the field's value, and then whatever the tick after it begins. -/
theorem emits_value {rest : List Bool}
    (hnext : ∀ t, ValueSent f (parityOf v) t → t.par = s.par → ∀ ext ts, Emits rest (tick ext ts t)) :
    Emits (wave s.par ((msbFirst v (fieldWidth f)).map symbolOf) ++ rest) (txAt f s) := by
  obtain ⟨n, hn⟩ := Nat.exists_eq_add_one.mpr (fieldWidth_pos_of_fieldValue hvalue)
  rw [parityOf_fieldValue hvalue, hn] at hnext
  rw [txAt_eq hvalue, hn]
  have hload : SendingValue f (loadValue f v s) := ⟨hfault, htiming, rfl⟩
  have hbits : (loadValue f v s).nbits.toNat = n + 1 := (fieldWidth_toNat f).trans hn
  refine hload.emits hbits fun t ht => hnext t ?_
  rwa [← Bool.false_xor (lowParity v (n + 1))]

/-- After the value the field's parity symbol follows, where it has one (41_bitcodec.md R101). -/
theorem emits_sentSymbols : Emits (wave s.par (sentSymbols f v)) (txAt f s) := by
  rw [sentSymbols, wave_append]
  refine emits_value hfault htiming hvalue fun t ht hpar ext ts => ?_
  cases hf : hasParity f with
  | false => trivial
  | true =>
    rw [ht.tick_parity hf, ← hpar, if_pos rfl, wave_cons, wave_nil]
    have hnofault : ({ t with elem := .el f .par, wdtcnt := 0, time := t.time + 1 } : State).fault = none := ht.fault
    exact emits_emitBit (rest := []) hnofault ht.timing _ fun _ _ => trivial

end

end Sys2Proof.Machine

open Sys2Proof Sys2Proof.Machine

/-- Settles O22: in TX_BIT the arm is `armTxBit`, which is given no line sample (`tick_txBit`). -/
theorem senderIgnoresTheLine : Obligations.SenderIgnoresTheLine := by
  intro s ts hphase
  rw [tick_txBit hphase, tick_txBit hphase]

/-- Settles O20: a block at CNT = 0 is inside its symbol (`InSymbol`), so it emits the symbol's pulse and comes to its
last tick, whatever the line does. -/
theorem symbolHeldForItsPeriod : Obligations.SymbolHeldForItsPeriod := by
  intro s exts hfault hphase hcnt hbus hhold hper hlen
  have hzero : s.cnt.toNat = 0 := by rw [hcnt]; rfl
  have hin : InSymbol s := by
    refine ⟨hfault, hphase, ?_, hper, ?_⟩
    · omega
    · rw [hbus, hzero, decide_eq_true hhold]
  refine ⟨fun e => ?_, ?_⟩
  · have hemits := hin.emits (rest := []) fun _ _ => trivial
    rw [hzero, List.drop_zero, List.append_nil] at hemits
    apply hemits.busTrace_eq
    rw [List.length_append, List.length_singleton, hlen, pulse_length (Nat.le_of_lt hper)]
  · have hnonempty : exts = [] → s.wdtcnt = 0 := by
      rintro rfl
      rw [List.length_nil] at hlen
      omega
    have htime : s.per.toNat - 1 - s.cnt.toNat = exts.length := by omega
    rw [hin.drive_eq_symbolEnd hnonempty (by omega), symbolEnd, htime]

/-- Settles O21: `emits_sentSymbols`, which holds for every drive. -/
theorem transmittedFieldIsItsEncoding : Obligations.TransmittedFieldIsItsEncoding := by
  intro s f v exts hfault htiming hvalue hlen
  apply (emits_sentSymbols hfault htiming hvalue).busTrace_eq
  rw [hlen, sentSymbols_wave_length htiming]

/-- Settles O60: each block emits its own value whatever the other does (`emits_value`), and the OR of the two
waveforms is the waveform of the AND (`zipWith_or_wave`). -/
theorem lockstepCarriesTheAnd : Obligations.LockstepCarriesTheAnd := by
  intro s1 s2 f v1 v2 t hfault1 hfault2 hpar htiming hvalue1 hvalue2
  have h1 := emits_value hfault1 htiming hvalue1 (rest := []) fun _ _ _ _ _ => trivial
  have h2 := emits_value hfault2 (hpar ▸ htiming) hvalue2 (rest := []) fun _ _ _ _ _ => trivial
  rw [List.append_nil] at h1 h2
  rw [← hpar] at h2
  have hlen : ∀ v : BitVec 12,
      (wave s1.par ((msbFirst v (fieldWidth f)).map symbolOf)).length = 10 * fieldWidth f := fun v => by
    rw [wave_map_symbolOf_length htiming, msbFirst_length]
  have hline := h1.levelTrace_eq h2 ((hlen v1).trans (hlen v2).symm) t
  rwa [hlen, zipWith_or_wave htiming] at hline

end

section
/-! The receiver inside a value: the ticks of a pulse and of the wait after it (41_bitcodec.md R103 to R106). -/

namespace Sys2Proof.Machine

/-! ## The ticks of a pulse that is received -/

section

variable {s : State}

theorem tick_rxWaithigh (h : s.phase = .rxWaithigh) (ext : Bool) (ts : Stamp) :
    tick ext ts s = { armRxWaithigh (lineOf ext s) { s with wdtcnt := 0 } with time := s.time + 1 } := by
  rw [tick_of_ne_idle (by simp [h])]
  simp [arm, h]

theorem tick_rxMeas (h : s.phase = .rxMeas) (ext : Bool) (ts : Stamp) :
    tick ext ts s = { armRxMeas (lineOf ext s) ts { s with wdtcnt := 0 } with time := s.time + 1 } := by
  rw [tick_of_ne_idle (by simp [h])]
  simp [arm, h]

theorem tick_rxRemain (h : s.phase = .rxRemain) (ext : Bool) (ts : Stamp) :
    tick ext ts s = { armRxRemain { s with wdtcnt := 0 } with time := s.time + 1 } := by
  rw [tick_of_ne_idle (by simp [h])]
  simp [arm, h]

end

/-- The receiver after k high samples of a pulse, counted from the first (41_bitcodec.md R103, R104). -/
def measuring (k : Nat) (s : State) : State :=
  { s with phase := .rxMeas, cnt := sat16 k, wdtcnt := 0, time := s.time + k }

/-- EDGE_TIMEOUT that does not cut off a wait of w ticks has not come at any count up to w (60_exceptions.md R190). -/
theorem timedOut_of_notCutOff {p : Params} {w k : Nat} (htiming : p.SourceTiming) (h : NotCutOff p w) (hk : k ≤ w) :
    timedOut p k = false := by
  obtain ⟨_, _, _, _, _, hstart, _⟩ := htiming
  obtain hlt | hbound := h
  · have hshort : ¬ p.tStart ≤ k := by omega
    simp [timedOut, hshort]
  · cases hedge : p.edgeTimeout with
    | none => simp [timedOut, hedge]
    | some n =>
      have hn : ¬ n ≤ k := by
        have hwn := hbound n hedge
        omega
      simp [timedOut, hedge, hn]

/-- The receiver after a pulse of w high samples and its first low one, the pulse's bit shifted in (41_bitcodec.md
R104, R106). -/
def pulseTaken (w : Nat) (s : State) : State :=
  { accumulateBit (decide (w ≤ 7)) s with phase := .rxWaithigh, cnt := 0, wdtcnt := 0, time := s.time + w + 1 }

/-- What a pulse leaves of a receiver that was waiting for it. -/
theorem pulseTaken_eq {s : State} (hphase : s.phase = .rxWaithigh) (w : Nat) :
    pulseTaken w s = { s with
      shift := if w ≤ 7 then s.shift <<< 1 ||| 1 else s.shift <<< 1
      parity := if w ≤ 7 then !s.parity else s.parity
      nbits := s.nbits - 1
      cnt := 0
      wdtcnt := 0
      time := s.time + w + 1 } := by
  by_cases hw : w ≤ 7 <;> simp [pulseTaken, accumulateBit, hw, hphase]

/-- A receiver in field f's value, its line released (41_bitcodec.md R103). -/
structure ReceivingValue (f : FieldCode) (s : State) : Prop where
  fault : s.fault = none
  timing : s.par.SourceTiming
  busOut : s.busOut = false
  elem : s.elem = .el f .val

namespace ReceivingValue

variable {f : FieldCode} {s : State} (h : ReceivingValue f s)

include h

/-- Nothing but the other nodes drives the line. -/
theorem lineOf_eq (ext : Bool) : lineOf ext s = ext := by simp [lineOf, h.busOut]

/-- A wait that is not cut off only counts its sample. -/
theorem countOrTimeout_eq {w : Nat} (hw : NotCutOff s.par w) (hcnt : s.cnt.toNat + 1 ≤ w) :
    countOrTimeout f s = { s with cnt := satInc s.cnt } := by
  rw [countOrTimeout, timedOut_of_notCutOff h.timing hw (Nat.le_trans (satInc_toNat_le _) hcnt)]
  rfl

/-- The first high sample starts the measurement. -/
theorem armRxWaithigh_high : armRxWaithigh true s = { s with phase := .rxMeas, cnt := 1 } := by
  simp [armRxWaithigh, h.elem, isOwnSlot]

theorem armRxWaithigh_low {w : Nat} (hw : NotCutOff s.par w) (hcnt : s.cnt.toNat + 1 ≤ w) :
    armRxWaithigh false s = { s with cnt := satInc s.cnt } := by
  rw [← h.countOrTimeout_eq hw hcnt]
  simp [armRxWaithigh, h.elem]

theorem armRxMeas_high {w : Nat} (hw : NotCutOff s.par w) (hcnt : s.cnt.toNat + 1 ≤ w) (ts : Stamp) :
    armRxMeas true ts s = { s with cnt := satInc s.cnt } := by
  rw [← h.countOrTimeout_eq hw hcnt]
  simp [armRxMeas, h.elem]

/-- A bit that is not the value's last is shifted in, and the pass goes on (41_bitcodec.md R106). -/
theorem rxDeliver_eq (hn : 2 ≤ s.nbits.toNat) (b : Bool) (ts : Stamp) :
    rxDeliver b ts s = (accumulateBit b s, true) := by
  have hmore : (accumulateBit b s).nbits ≠ 0 := by
    rw [accumulateBit_nbits]
    bv_omega
  simp only [rxDeliver, h.elem]
  rw [deliverVal, if_neg hmore]

theorem classify_eq (w : Nat) : classify s.par w = decide (w ≤ 7) := by
  obtain ⟨_, _, _, hthresh, _⟩ := h.timing
  rw [classify, hthresh]

/-- At the source's timing nothing of a 0's pulse is left to wait out. -/
theorem afterBit_eq (w : Nat) :
    afterBit (decide (w ≤ 7)) w s = { s with phase := .rxWaithigh, cnt := 0 } := by
  obtain ⟨_, _, _, _, _, _, _, _, hrem⟩ := h.timing
  have hnone : ¬ (¬ w ≤ 7 ∧ w + 1 < 9) := by omega
  rw [afterBit, hrem, if_neg]
  simpa using hnone

/-- The first low sample ends the pulse and its width decides the bit (41_bitcodec.md R104). -/
theorem armRxMeas_low (hn : 2 ≤ s.nbits.toNat) (ts : Stamp) :
    armRxMeas false ts s =
      { accumulateBit (decide (s.cnt.toNat ≤ 7)) s with phase := .rxWaithigh, cnt := 0 } := by
  have hacc : ReceivingValue f (accumulateBit (decide (s.cnt.toNat ≤ 7)) s) :=
    ⟨h.fault, h.timing, h.busOut, h.elem⟩
  rw [← hacc.afterBit_eq s.cnt.toNat]
  simp [armRxMeas, h.elem, h.classify_eq, h.rxDeliver_eq hn, ifContinues]

/-! ### The ticks -/

theorem of_wdtcnt (c : BitVec 16) : ReceivingValue f { s with wdtcnt := c } :=
  ⟨h.fault, h.timing, h.busOut, h.elem⟩

theorem of_measuring (k : Nat) : ReceivingValue f (measuring k s) := ⟨h.fault, h.timing, h.busOut, h.elem⟩

theorem of_pulseTaken (w : Nat) : ReceivingValue f (pulseTaken w s) := ⟨h.fault, h.timing, h.busOut, h.elem⟩

theorem tick_rise (hphase : s.phase = .rxWaithigh) (ts : Stamp) : tick true ts s = measuring 1 s := by
  rw [tick_rxWaithigh hphase, h.lineOf_eq, (h.of_wdtcnt 0).armRxWaithigh_high]
  rfl

/-- A low sample between two pulses is counted (41_bitcodec.md R103). -/
theorem tick_low (hphase : s.phase = .rxWaithigh) {n : Nat} (hcnt : s.cnt = sat16 n) (hn : n + 1 < 47) (ts : Stamp) :
    tick false ts s = { s with cnt := sat16 (n + 1), wdtcnt := 0, time := s.time + 1 } := by
  have hle : s.cnt.toNat + 1 ≤ n + 1 := by
    rw [hcnt, sat16_toNat]
    omega
  rw [tick_rxWaithigh hphase, h.lineOf_eq, (h.of_wdtcnt 0).armRxWaithigh_low (.inl hn) hle, ← satInc_sat16,
    ← hcnt]

/-- Another high sample is counted (41_bitcodec.md R104). -/
theorem tick_high {w k : Nat} (hw : NotCutOff s.par w) (hk : k + 1 ≤ w) (ts : Stamp) :
    tick true ts (measuring k s) = measuring (k + 1) s := by
  have hle : (measuring k s).cnt.toNat + 1 ≤ w := by
    have hcnt : (measuring k s).cnt.toNat = min k 65535 := sat16_toNat k
    omega
  rw [tick_rxMeas (s := measuring k s) rfl, (h.of_measuring k).lineOf_eq,
    ((h.of_measuring k).of_wdtcnt 0).armRxMeas_high hw hle]
  exact congrArg (fun c => { measuring (k + 1) s with cnt := c }) (satInc_sat16 k)

theorem tick_fall (hn : 2 ≤ s.nbits.toNat) (w : Nat) (ts : Stamp) :
    tick false ts (measuring w s) = pulseTaken w s := by
  have hwidth : decide ((measuring w s).cnt.toNat ≤ 7) = decide (w ≤ 7) := by
    have hcnt : (measuring w s).cnt.toNat = min w 65535 := sat16_toNat w
    exact decide_eq_decide.mpr (by omega)
  rw [tick_rxMeas (s := measuring w s) rfl, (h.of_measuring w).lineOf_eq,
    ((h.of_measuring w).of_wdtcnt 0).armRxMeas_low hn, hwidth]
  rfl

/-! ### Runs of ticks -/

/-- A pulse of n + 1 high samples is measured to its end. -/
theorem drive_high (hphase : s.phase = .rxWaithigh) {w n : Nat} (hw : NotCutOff s.par w)
    (hn : n + 1 ≤ w) : drive (List.replicate (n + 1) true) s = measuring (n + 1) s := by
  induction n with
  | zero => exact (drive_cons h.fault _ _).trans (h.tick_rise hphase _)
  | succ n ih =>
    rw [List.replicate_succ', drive_append, ih (Nat.le_of_succ_le hn), drive_cons (h.of_measuring (n + 1)).fault,
      h.tick_high hw hn, drive_nil]

/-- A pulse and the low sample after it deliver one bit, by the pulse's width (30_encoding.md R66). -/
theorem drive_pulse (hphase : s.phase = .rxWaithigh) (hn : 2 ≤ s.nbits.toNat) {w : Nat} (hpos : 1 ≤ w)
    (hw : NotCutOff s.par w) :
    drive (List.replicate w true ++ [false]) s = pulseTaken w s := by
  obtain ⟨n, rfl⟩ := Nat.exists_eq_add_one.mpr hpos
  rw [drive_append, h.drive_high hphase hw (Nat.le_refl _), drive_cons (h.of_measuring (n + 1)).fault,
    h.tick_fall hn, drive_nil]

/-- Low samples between two pulses are counted. -/
theorem drive_low (hphase : s.phase = .rxWaithigh) (hwdt : s.wdtcnt = 0) {m n : Nat} (hcnt : s.cnt = sat16 m)
    (hn : m + n < 47) :
    drive (List.replicate n false) s = { s with cnt := sat16 (m + n), time := s.time + n } := by
  induction n generalizing m s with
  | zero =>
    rw [Nat.add_zero, ← hcnt]
    rfl
  | succ n ih =>
    have htick := h.tick_low hphase hcnt (by omega) (Config.tsIn s.time)
    have hafter : ReceivingValue f { s with cnt := sat16 (m + 1), wdtcnt := 0, time := s.time + 1 } :=
      ⟨h.fault, h.timing, h.busOut, h.elem⟩
    rw [List.replicate_succ, drive_cons h.fault, htick, ih hafter hphase rfl rfl (by omega),
      Nat.add_right_comm, Nat.add_assoc s.time, Nat.add_comm 1, ← hwdt, Nat.add_assoc]

end ReceivingValue

/-! ## The rows BIT1 and BIT0 -/

theorem exec_bit1 {s : State} (h : s.fault = none) : exec .bit1 s = .next (drive (wave s.par [.one]) s) :=
  live_none h _

theorem exec_bit0 {s : State} (h : s.fault = none) : exec .bit0 s = .next (drive (wave s.par [.zero]) s) :=
  live_none h _

/-- BIT1 at the source's timing: a pulse of 5 ticks with its first low sample, and four more (30_encoding.md R62). -/
theorem wave_one {p : Params} (h : p.SourceTiming) :
    wave p [.one] = (List.replicate 5 true ++ [false]) ++ List.replicate 4 false := by
  obtain ⟨h1, _, hbit, _⟩ := h
  rw [wave_cons, wave_nil, symbolWave, h1, hbit]
  rfl

/-- BIT0 at the source's timing: a pulse of 9 ticks with its first low sample (30_encoding.md R63). -/
theorem wave_zero {p : Params} (h : p.SourceTiming) : wave p [.zero] = List.replicate 9 true ++ [false] := by
  obtain ⟨_, h0, hbit, _⟩ := h
  rw [wave_cons, wave_nil, symbolWave, h0, hbit]
  rfl

/-! ## RX_REMAIN -/

/-- RX_REMAIN counts without a look at the line until T_REM ticks have passed (41_bitcodec.md R105). -/
theorem drive_rxRemain {exts : List Bool} {s : State} (hfault : s.fault = none) (hphase : s.phase = .rxRemain)
    (hbound : s.par.tRem < 65536) (hpos : 0 < exts.length) (hlen : s.cnt.toNat + exts.length = s.par.tRem) :
    drive exts s = { s with phase := .rxWaithigh, cnt := 0, wdtcnt := 0, time := s.time + exts.length } := by
  induction exts generalizing s with
  | nil => cases hpos
  | cons e es ih =>
    rw [List.length_cons] at hlen
    have hinc : (satInc s.cnt).toNat = s.cnt.toNat + 1 := by
      rw [satInc_toNat]
      omega
    rw [drive_cons hfault, tick_rxRemain hphase]
    cases es with
    | nil =>
      have hend : s.par.tRem ≤ (satInc s.cnt).toNat := by
        rw [hinc, ← hlen]
        exact Nat.le_refl _
      rw [drive_nil, armRxRemain, if_pos hend]
      rfl
    | cons e' es =>
      have hmore : ¬ s.par.tRem ≤ (satInc s.cnt).toNat := by
        rw [List.length_cons] at hlen
        omega
      rw [armRxRemain, if_neg hmore]
      have hrest : (satInc s.cnt).toNat + (e' :: es).length = s.par.tRem := by omega
      rw [ih (s := { s with cnt := satInc s.cnt, wdtcnt := 0, time := s.time + 1 }) hfault hphase hbound
        (Nat.succ_pos _) hrest,
        List.length_cons (a := e), Nat.add_assoc s.time, Nat.add_comm 1]

end Sys2Proof.Machine

open Sys2Proof Sys2Proof.Machine

/-- Settles O38: `ReceivingValue.drive_pulse` for a pulse of any width; BIT1 and BIT0 are pulses of 5 and 9 ticks, and
four more low samples are counted after BIT1's. -/
theorem pulseDecodesByItsWidth : Obligations.PulseDecodesByItsWidth := by
  intro s f hfault htiming hphase hbus helem hbits
  have hrx : ReceivingValue f s := ⟨hfault, htiming, hbus, helem⟩
  refine ⟨fun w hpos hw => ?_, ?_, ?_⟩
  · rw [hrx.drive_pulse hphase hbits hpos hw, pulseTaken_eq hphase]
  · rw [exec_bit1 hfault, wave_one htiming, drive_append, hrx.drive_pulse hphase hbits (by decide) (.inl (by decide)),
      (hrx.of_pulseTaken 5).drive_low rfl rfl (m := 0) rfl (by decide), pulseTaken_eq hphase]
    rfl
  · rw [exec_bit0 hfault, wave_zero htiming, hrx.drive_pulse hphase hbits (by decide) (.inl (by decide)),
      pulseTaken_eq hphase]
    rfl

/-- Settles O47: `drive_rxRemain`. -/
theorem remainWaitsOut : Obligations.RemainWaitsOut := by
  intro s exts hfault hphase hcnt hbound hlen
  exact drive_rxRemain hfault hphase hbound (by omega) (by omega)

end

section
/-! Arbitration and the start bit: ARB waits for ten low samples in a row (42_start_arbitration.md R117 to R120), and
the width of the first pulse seen from IDLE decides whether it is a start (R113 to R116). -/

namespace Sys2Proof.Machine

/-- Nothing but the other nodes drives the line of a block that has released it (10_state.md R20). -/
theorem lineOf_of_released {s : State} (h : s.busOut = false) (ext : Bool) : lineOf ext s = ext := by
  simp [lineOf, h]

/-! ## ARB -/

/-- A running block that waits for the line to be free, its own drive released (42_start_arbitration.md R117). -/
structure Arbitrating (s : State) : Prop where
  fault : s.fault = none
  timing : s.par.SourceTiming
  phase : s.phase = .arb
  busOut : s.busOut = false

namespace Arbitrating

variable {s : State} (h : Arbitrating s)

include h

theorem tBusfree_eq : s.par.tBusfree = 10 := by
  obtain ⟨_, _, _, _, _, _, _, hfree, _⟩ := h.timing
  exact hfree

theorem tick_eq (ext : Bool) (ts : Stamp) :
    tick ext ts s = { armArb ext { s with wdtcnt := 0 } with time := s.time + 1 } := by
  rw [tick_of_ne_idle (by simp [h.phase]), lineOf_of_released h.busOut]
  simp [arm, h.phase]

/-- A high sample starts the count anew (42_start_arbitration.md R118). -/
theorem tick_high (ts : Stamp) : tick true ts s = { s with cnt := 0, wdtcnt := 0, time := s.time + 1 } := by
  rw [h.tick_eq]
  rfl

/-- A low sample before the tenth is counted. -/
theorem tick_low (hcnt : s.cnt.toNat + 1 < 10) (ts : Stamp) :
    tick false ts s = { s with cnt := satInc s.cnt, wdtcnt := 0, time := s.time + 1 } := by
  have hmore : ¬ (satInc s.cnt).toNat = s.par.tBusfree := by
    rw [satInc_toNat, h.tBusfree_eq]
    omega
  rw [h.tick_eq, armArb]
  simp [hmore]

/-- The tenth low sample frees the line for the start bit. -/
theorem tick_free (hcnt : s.cnt.toNat + 1 = 10) (ts : Stamp) :
    tick false ts s = encodeStart { s with wdtcnt := 0, time := s.time + 1 } := by
  have hfree : (satInc s.cnt).toNat = s.par.tBusfree := by
    rw [satInc_toNat, h.tBusfree_eq, hcnt]
    rfl
  rw [h.tick_eq, armArb]
  simp only [Bool.false_eq_true, if_false, if_pos hfree]
  rfl

/-- A block that goes on waiting, another sample of the line seen. -/
theorem of_counted (c : BitVec 16) : Arbitrating { s with cnt := c, wdtcnt := 0, time := s.time + 1 } :=
  ⟨h.fault, h.timing, h.phase, h.busOut⟩

/-- The low samples still missing start the start bit. -/
theorem drive_free {n : Nat} (hcnt : s.cnt.toNat + (n + 1) = 10) :
    drive (List.replicate (n + 1) false) s = encodeStart { s with wdtcnt := 0, time := s.time + (n + 1) } := by
  induction n generalizing s with
  | zero => rw [List.replicate_one, drive_cons h.fault, h.tick_free hcnt, drive_nil]
  | succ n ih =>
    have hinc : (satInc s.cnt).toNat = s.cnt.toNat + 1 := by
      rw [satInc_toNat]
      omega
    rw [List.replicate_succ, drive_cons h.fault, h.tick_low (by omega), ih (h.of_counted _) (by rw [hinc]; omega),
      Nat.add_assoc s.time, Nat.add_comm 1]
    rfl

/-- A sample that is not the tenth low one in a row leaves the block waiting, and the samples to come never free the
line from the new count on (42_start_arbitration.md R119). -/
theorem tick_busy {e : Bool} {es : List Bool} (hbusy : neverFree s.cnt.toNat (e :: es) = true) (ts : Stamp) :
    ∃ c : BitVec 16, c.toNat < 10 ∧ neverFree c.toNat es = true ∧
      tick e ts s = { s with cnt := c, wdtcnt := 0, time := s.time + 1 } := by
  cases e with
  | true => exact ⟨0, by decide, hbusy, h.tick_high ts⟩
  | false =>
    obtain ⟨hcnt, hrest⟩ : s.cnt.toNat + 1 < 10 ∧ neverFree (s.cnt.toNat + 1) es = true := by
      simpa [neverFree] using hbusy
    have hinc : (satInc s.cnt).toNat = s.cnt.toNat + 1 := by
      rw [satInc_toNat]
      omega
    exact ⟨satInc s.cnt, hinc ▸ hcnt, hinc ▸ hrest, h.tick_low hcnt ts⟩

/-- While the line is never free the block goes on waiting (42_start_arbitration.md R119, R120). -/
theorem drive_busy {exts : List Bool} (hstart : exts = [] → s.cnt.toNat < 10 ∧ s.wdtcnt = 0)
    (hbusy : neverFree s.cnt.toNat exts = true) :
    ∃ c : BitVec 16, c.toNat < 10 ∧
      drive exts s = { s with cnt := c, wdtcnt := 0, time := s.time + exts.length } := by
  induction exts generalizing s with
  | nil =>
    obtain ⟨hcnt, hwdt⟩ := hstart rfl
    refine ⟨s.cnt, hcnt, ?_⟩
    rw [drive_nil, ← hwdt]
    rfl
  | cons e es ih =>
    obtain ⟨c, hc, hrest, htick⟩ := h.tick_busy hbusy (Config.tsIn s.time)
    obtain ⟨d, hd, hdrive⟩ := ih (h.of_counted c) (fun _ => ⟨hc, rfl⟩) hrest
    refine ⟨d, hd, ?_⟩
    rw [drive_cons h.fault, htick, hdrive, List.length_cons, Nat.add_assoc s.time, Nat.add_comm 1]

end Arbitrating

/-! ## What the width of the first pulse decides -/

/-- The state after the low sample that ends a start candidate of w high ticks (42_start_arbitration.md R113). -/
def startDecided (w : Nat) (s : State) : State :=
  { armStartMeas false { s with cnt := sat16 w, wdtcnt := 0 } with time := s.time + 1 }

/-- The acceptance window at the source's timing; a count that has saturated is beyond it. -/
theorem startWindow_sat16 {p : Params} (h : p.SourceTiming) (w : Nat) :
    startWindow p (sat16 w).toNat = decide (40 ≤ w ∧ w < 47) := by
  obtain ⟨_, _, _, _, _, hstart, hmin, _⟩ := h
  rw [startWindow, hstart, hmin, sat16_toNat, ← Bool.decide_and]
  exact decide_eq_decide.mpr (by omega)

section

variable {s : State} (htiming : s.par.SourceTiming) {w : Nat}

include htiming

/-- A width inside the window opens the receive pass (42_start_arbitration.md R115). -/
theorem startDecided_accept (h : 40 ≤ w ∧ w < 47) :
    startDecided w s = { acceptStart { s with wdtcnt := 0 } with time := s.time + 1 } := by
  simp only [startDecided, armStartMeas, startWindow_sat16 htiming, decide_eq_true h, Bool.false_eq_true, if_false,
    if_true]
  rfl

/-- Any other width is a malformed start (42_start_arbitration.md R116). -/
theorem startDecided_reject (h : w < 40 ∨ 47 ≤ w) :
    startDecided w s = { rejectStart { s with wdtcnt := 0 } with time := s.time + 1 } := by
  have hout : ¬ (40 ≤ w ∧ w < 47) := by omega
  simp only [startDecided, armStartMeas, startWindow_sat16 htiming, decide_eq_false hout, Bool.false_eq_true,
    if_false]
  rfl

end

/-- The watchdog's own event is none of a pass's. -/
theorem passEvents_watchdog (s : State) : passEvents (watchdog s).events = passEvents s.events := by
  rw [watchdog_events_of_kicks]
  cases kicks s <;> simp [passEvents]

theorem rejectStart_rxResult (s : State) : (rejectStart s).rxResult = 0x0015 :=
  show resultWord (rxKindNum .malformedStart) .start 0 = 0x0015 by decide

/-- A malformed start is reported, and logged as an error where ERRLOG_EN asks for it (60_exceptions.md R205). -/
theorem passEvents_rejectStart (s : State) :
    passEvents (rejectStart s).events =
      passEvents s.events ++ stamped s.time (.rxDone 0x0015 :: errorLog s 0x0015) := by
  have hresult : resultWord (rxKindNum .malformedStart) .start 0 = 0x0015 := rejectStart_rxResult s
  rw [rejectStart, rxEnd_events, hresult]
  cases herr : s.errlogEn <;> simp [passEvents, rxEndEvents, rxKindIsError, errorLog, herr]

/-! ## START_MEAS -/

/-- A block that has seen k high samples of a start candidate (42_start_arbitration.md R113). -/
structure MeasuringStart (k : Nat) (s : State) : Prop where
  fault : s.fault = none
  timing : s.par.SourceTiming
  phase : s.phase = .startMeas
  busOut : s.busOut = false
  cnt : s.cnt = sat16 k

namespace MeasuringStart

variable {k : Nat} {s : State} (h : MeasuringStart k s)

include h

theorem tick_eq (ext : Bool) (ts : Stamp) :
    tick ext ts s = { armStartMeas ext { s with wdtcnt := 0 } with time := s.time + 1 } := by
  rw [tick_of_ne_idle (by simp [h.phase]), lineOf_of_released h.busOut]
  simp [arm, h.phase]

/-- Another high sample is counted where EDGE_TIMEOUT does not end the wait. -/
theorem tick_high {w : Nat} (hw : NotCutOff s.par w) (hk : k + 1 ≤ w) (ts : Stamp) :
    tick true ts s = { s with cnt := sat16 (k + 1), wdtcnt := 0, time := s.time + 1 } := by
  have hle : (sat16 (k + 1)).toNat ≤ w := by
    rw [sat16_toNat]
    omega
  have hinc : satInc s.cnt = sat16 (k + 1) := by rw [h.cnt, satInc_sat16]
  rw [h.tick_eq]
  simp [armStartMeas, countOrTimeout, hinc, timedOut_of_notCutOff h.timing hw hle]

/-- The first low sample decides. -/
theorem tick_fall (ts : Stamp) : tick false ts s = startDecided k s := by
  rw [h.tick_eq, startDecided, ← h.cnt]

theorem of_counted : MeasuringStart (k + 1) { s with cnt := sat16 (k + 1), wdtcnt := 0, time := s.time + 1 } :=
  ⟨h.fault, h.timing, h.phase, h.busOut, rfl⟩

/-- The rest of a pulse of k + n high samples, with the low sample that ends it. -/
theorem drive_pulse {n : Nat} (hw : NotCutOff s.par (k + n)) :
    drive (List.replicate n true ++ [false]) s = startDecided (k + n) { s with time := s.time + n } := by
  induction n generalizing k s with
  | zero => exact (drive_cons h.fault _ _).trans (h.tick_fall _)
  | succ n ih =>
    have hsum : k + 1 + n = k + (n + 1) := by omega
    rw [List.replicate_succ, List.cons_append, drive_cons h.fault, h.tick_high hw (by omega),
      ih h.of_counted (hsum ▸ hw), hsum, Nat.add_assoc s.time, Nat.add_comm 1]
    rfl

end MeasuringStart

/-! ## A pulse seen from IDLE -/

/-- The block n ticks on, nothing changed but by the watchdog's update in the first of them (40_step.md R93). -/
def watchedFor (n : Nat) (s : State) : State := { watchdog s with time := s.time + n }

section

variable {s : State} (h : Listening s)

include h

/-- The first high sample starts a start candidate (40_step.md R92). -/
theorem tick_listening_high (ts : Stamp) :
    tick true ts s = { watchdog s with phase := .startMeas, cnt := sat16 1, time := s.time + 1 } := by
  obtain ⟨_, _, hphase, _, hpending⟩ := h
  exact tick_idle_high hphase hpending (Bool.or_true _) ts

/-- A pulse of w high samples and its first low one, counted from a listening block. -/
theorem drive_start_pulse {w : Nat} (hpos : 1 ≤ w) (hw : NotCutOff s.par w) :
    drive (List.replicate w true ++ [false]) s = startDecided w (watchedFor w s) := by
  obtain ⟨hfault, htiming, _, hbus, _⟩ := id h
  obtain ⟨n, rfl⟩ := Nat.exists_eq_add_one.mpr hpos
  have hsum : 1 + n = n + 1 := Nat.add_comm 1 n
  have hmeas : MeasuringStart 1 { watchdog s with phase := .startMeas, cnt := sat16 1, time := s.time + 1 } :=
    ⟨hfault, htiming, rfl, hbus, rfl⟩
  rw [List.replicate_succ, List.cons_append, drive_cons hfault, tick_listening_high h,
    hmeas.drive_pulse (hsum ▸ hw), hsum, Nat.add_assoc s.time, hsum]
  rfl

end

/-! ## The row START -/

theorem exec_start {s : State} (h : s.fault = none) : exec .start s = .next (drive (wave s.par [.start]) s) :=
  live_none h _

/-- START at the source's timing: a pulse of 42 ticks with its first low sample, and four more (30_encoding.md R64). -/
theorem wave_start {p : Params} (h : p.SourceTiming) :
    wave p [.start] = (List.replicate 42 true ++ [false]) ++ List.replicate 4 false := by
  obtain ⟨_, _, _, _, hhigh, hstart, _⟩ := h
  rw [wave_cons, wave_nil, symbolWave, hhigh, hstart]
  rfl

/-- What the row START leaves of a listening block. -/
theorem drive_start {s : State} (h : Listening s) :
    drive (wave s.par [.start]) s =
      { acceptStart { watchdog s with wdtcnt := 0 } with cnt := 4, time := s.time + 47 } := by
  obtain ⟨hfault, htiming, _, hbus, _⟩ := id h
  have haccept := startDecided_accept (s := watchedFor 42 s) (w := 42) htiming (by decide)
  have hrx : ReceivingValue .mode (startDecided 42 (watchedFor 42 s)) := by
    rw [haccept]
    exact ⟨hfault, htiming, hbus, rfl⟩
  rw [wave_start htiming, drive_append, drive_start_pulse h (by decide) (.inl (by decide)),
    hrx.drive_low (m := 0) (by rw [haccept]; rfl) (by rw [haccept]; rfl) (by rw [haccept]; rfl) (by decide), haccept]
  rfl

end Sys2Proof.Machine

open Sys2Proof Sys2Proof.Machine

/-- Settles O29: `Arbitrating.drive_free`, by induction on the low samples still missing. -/
theorem busFreeThenStartBit : Obligations.BusFreeThenStartBit := by
  intro s hfault htiming hphase hbus hcnt
  have harb : Arbitrating s := ⟨hfault, htiming, hphase, hbus⟩
  obtain ⟨n, hn⟩ : ∃ n, 10 - s.cnt.toNat = n + 1 := Nat.exists_eq_add_one.mpr (by omega)
  rw [hn]
  exact harb.drive_free (by omega)

/-- Settles O30: `Arbitrating.drive_busy`, by induction on the drive of the other nodes. -/
theorem busyLineKeepsArbitrating : Obligations.BusyLineKeepsArbitrating := by
  intro s exts hfault htiming hphase hbus hne hbusy
  have harb : Arbitrating s := ⟨hfault, htiming, hphase, hbus⟩
  exact harb.drive_busy (fun hnil => absurd hnil hne) hbusy

/-- Settles O36: the pulse is measured to its end (`drive_start_pulse`), and its width lies in the window
(`startDecided_accept`) or outside it (`startDecided_reject`). -/
theorem startWindowIsHalfOpen : Obligations.StartWindowIsHalfOpen := by
  intro s w hlisten hpos hw
  obtain ⟨hfault, htiming, _, hbus, _⟩ := id hlisten
  refine ⟨_, drive_start_pulse hlisten hpos hw, ?_⟩
  obtain hin | hout : (40 ≤ w ∧ w < 47) ∨ (w < 40 ∨ 47 ≤ w) := by omega
  · rw [startDecided_accept (s := watchedFor w s) htiming hin]
    refine ⟨hfault, rfl, hbus, rfl, rfl, fun _ => ?_, fun hout => by omega⟩
    exact ⟨rfl, rfl, rfl, rfl, rfl, rfl, rfl, rfl, rfl, rfl, passEvents_watchdog s⟩
  · rw [startDecided_reject (s := watchedFor w s) htiming hout]
    refine ⟨hfault, rfl, rfl, rfl, rfl, fun hin => by omega, fun _ => ?_⟩
    refine ⟨rfl, rfl, rfl, rejectStart_rxResult { watchedFor w s with wdtcnt := 0 }, ?_⟩
    rw [← passEvents_watchdog s]
    exact passEvents_rejectStart { watchedFor w s with wdtcnt := 0 }

/-- Settles O37: `drive_start`, the pulse of 42 ticks accepted and four low samples counted after its first. -/
theorem startSymbolOpensReceivePass : Obligations.StartSymbolOpensReceivePass := by
  intro s hlisten
  obtain ⟨hfault, htiming, _, hbus, hpending⟩ := id hlisten
  refine ⟨_, exec_start hfault, ?_⟩
  rw [drive_start hlisten]
  have hat : RxAt .mode { acceptStart { watchdog s with wdtcnt := 0 } with cnt := 4, time := s.time + 47 } :=
    ⟨hfault, htiming, rfl, hbus, rfl, rfl, rfl, rfl⟩
  exact ⟨hat, rfl, rfl, rfl, rfl, rfl, rfl, rfl, rfl, rfl, hpending, rfl, passEvents_watchdog s⟩

end

section
/-! A sender's acknowledge slot: high while the sender or another node drives it, measured at its first low sample, and
over in tick 9 or with that sample (43_acknowledge.md R123 to R127). -/

namespace Sys2Proof.Machine

/-! ## The TX_ACK arm -/

theorem isBroadcast_eq (p : Params) (m : Bool) : isBroadcast p m = decide (m = p.modeBcastBit) := rfl

theorem tick_txAck {s : State} (h : s.phase = .txAck) (ext : Bool) (ts : Stamp) :
    tick ext ts s = { armTxAck (lineOf ext s) ts { s with wdtcnt := 0 } with time := s.time + 1 } := by
  rw [tick_of_ne_idle (by simp [h])]
  simp [arm, h]

section

variable {s : State} {f : FieldCode} (helem : s.elem = .el f .ack)

include helem

/-- A high sample of a slot still measured is counted where EDGE_TIMEOUT does not end the wait (43_acknowledge.md
R124). -/
theorem armTxAck_high (hmeas : s.meas = true) (hwait : timedOut s.par (s.cnt.toNat + 1) = false) (ts : Stamp) :
    armTxAck true ts s = { s with cnt := satInc s.cnt, busOut := decide (s.cnt.toNat + 1 < s.par.t1High) } := by
  simp [armTxAck, helem, hmeas, hwait, measureSlot, slotTick]

/-- A low sample measures the slot if none has before (43_acknowledge.md R124). -/
theorem armTxAck_low (ts : Stamp) : armTxAck false ts s = slotTick f ts (measureSlot false s) := by
  simp [armTxAck, helem]

end

/-! ## The ticks of a slot -/

/-- Tick k of the slot that s opens, not yet measured: the sender's own pulse is five ticks long (43_acknowledge.md
R123, R126). -/
def slotAt (k : Nat) (s : State) : State :=
  { openSlot s with cnt := BitVec.ofNat 16 k, busOut := decide (k < 5), wdtcnt := 0, time := s.time + k }

/-- Tick k of the same slot, measured as w high ticks and low since (43_acknowledge.md R124, R127). -/
def slotMeasured (w k : Nat) (s : State) : State :=
  { slotAt k s with
    meas := false
    acked := decide (7 < w) || decide (s.frame.mode = s.par.modeBcastBit)
    busOut := false }

/-- What a slot measured as w high ticks ends in: the next element, or NAK (43_acknowledge.md R124, R132). -/
def slotEnd (f : FieldCode) (w : Nat) (ts : Stamp) (s : State) : State :=
  if 7 < w ∨ s.frame.mode = s.par.modeBcastBit then advanceTx ts s else txEnd .nak f (errIndex f s.didx) ts s

/-- A slot's first tick does not depend on the watchdog's count. -/
theorem tick_openSlot (s : State) (ext : Bool) (ts : Stamp) : tick ext ts (openSlot s) = tick ext ts (slotAt 0 s) := by
  rw [tick_txAck (s := openSlot s) rfl, tick_txAck (s := slotAt 0 s) rfl]
  rfl

/-- A run from a slot's first tick does not depend on it either. -/
theorem drive_openSlot_eq {s : State} (hfault : s.fault = none) {exts : List Bool} (hne : exts ≠ []) :
    drive exts (openSlot s) = drive exts (slotAt 0 s) := by
  obtain ⟨e, es, rfl⟩ := List.exists_cons_of_ne_nil hne
  rw [drive_cons (s := openSlot s) hfault, drive_cons (s := slotAt 0 s) hfault, tick_openSlot]
  rfl

theorem slotAt_cnt {k : Nat} (hk : k < 65536) (s : State) : (slotAt k s).cnt.toNat = k := Nat.mod_eq_of_lt hk

/-- In a slot the count is far from saturation. -/
theorem satInc_slotAt {k : Nat} (hk : k < 65535) (s : State) : satInc (slotAt k s).cnt = (slotAt (k + 1) s).cnt := by
  rw [satInc, slotAt_cnt (Nat.lt_succ_of_lt hk), sat16, Nat.min_eq_left hk]
  rfl

/-- A measured slot is not measured again. -/
theorem tick_slotMeasured {s : State} {f : FieldCode} (helem : s.elem = .el f .ack) (w k : Nat) (ts : Stamp) :
    tick false ts (slotMeasured w k s) = { slotTick f ts (slotMeasured w k s) with time := s.time + k + 1 } := by
  have hlow : lineOf false (slotMeasured w k s) = false := rfl
  rw [tick_txAck (s := slotMeasured w k s) rfl, hlow, armTxAck_low (s := { slotMeasured w k s with wdtcnt := 0 }) helem]
  rfl

section

variable {s : State} {f : FieldCode} (htiming : s.par.SourceTiming) (helem : s.elem = .el f .ack) {w k : Nat}

include htiming

/-- The first low sample measures the slot by its high ticks (43_acknowledge.md R124, R125, R127). -/
theorem measureSlot_slotAt (hk : 5 ≤ k) (hlt : k < 65536) : measureSlot false (slotAt k s) = slotMeasured k k s := by
  have hcnt := slotAt_cnt hlt s
  have hlow : decide (k < 5) = false := decide_eq_false (by omega)
  obtain ⟨_, _, _, hthresh, _⟩ := htiming
  have hacked : decide (s.par.tThresh < (slotAt k s).cnt.toNat) = decide (7 < k) := by rw [hthresh, hcnt]
  rw [slotMeasured, ← hacked]
  simp [measureSlot, slotAt, openSlot, isBroadcast_eq, hlow]

/-- Until ten ticks have passed a measured slot goes on (43_acknowledge.md R126). -/
theorem slotTick_more (hk : 5 ≤ k) (hmore : k + 1 < 10) (ts : Stamp) :
    slotTick f ts (slotMeasured w k s) = { slotMeasured w k s with cnt := BitVec.ofNat 16 (k + 1) } := by
  have hcnt : (slotMeasured w k s).cnt.toNat = k := slotAt_cnt (k := k) (by omega) s
  have hinc : satInc (slotMeasured w k s).cnt = BitVec.ofNat 16 (k + 1) := satInc_slotAt (k := k) (by omega) s
  obtain ⟨h1, _, hbit, _⟩ := htiming
  have hon : ¬ (slotMeasured w k s).par.tBit ≤ k + 1 := by
    change ¬ s.par.tBit ≤ k + 1
    omega
  have hlow : ¬ k + 1 < (slotMeasured w k s).par.t1High := by
    change ¬ k + 1 < s.par.t1High
    omega
  rw [slotTick, hcnt, hinc, decide_eq_false hon, decide_eq_false hlow, Bool.and_false]
  rfl

/-- Then it decides (43_acknowledge.md R124, R132). -/
theorem slotTick_last (hk : 9 ≤ k) (hlt : k < 65536) (ts : Stamp) :
    slotTick f ts (slotMeasured w k s) = slotEnd f w ts (slotMeasured w k s) := by
  have hcnt : (slotMeasured w k s).cnt.toNat = k := slotAt_cnt hlt s
  obtain ⟨_, _, hbit, _⟩ := htiming
  have hover : (slotMeasured w k s).par.tBit ≤ k + 1 := by
    change s.par.tBit ≤ k + 1
    omega
  have hacked : (slotMeasured w k s).acked = true ↔ 7 < w ∨ s.frame.mode = s.par.modeBcastBit := by
    simp [slotMeasured]
  rw [slotTick, hcnt, decide_eq_true hover, Bool.and_true]
  exact (if_pos rfl).trans (ite_congr (propext hacked) (fun _ => rfl) fun _ => rfl)

include helem

/-- A high sample of a slot that is not measured yet is counted (43_acknowledge.md R124). -/
theorem tick_slotAt_high (hk : k + 1 < 47) {ext : Bool} (hline : k < 5 ∨ ext = true) (ts : Stamp) :
    tick ext ts (slotAt k s) = slotAt (k + 1) s := by
  have hhigh : lineOf ext (slotAt k s) = true := by
    obtain hown | hext := hline
    · simp [lineOf, slotAt, hown]
    · simp [lineOf, hext]
  have hcnt := slotAt_cnt (k := k) (by omega) s
  have hinc := satInc_slotAt (k := k) (by omega) s
  have hwait : timedOut s.par ((slotAt k s).cnt.toNat + 1) = false := by
    rw [hcnt]
    exact timedOut_of_notCutOff htiming (.inl hk) (Nat.le_refl _)
  obtain ⟨h1, _⟩ := htiming
  rw [tick_txAck (s := slotAt k s) rfl, hhigh, armTxAck_high (s := { slotAt k s with wdtcnt := 0 }) helem rfl hwait,
    hinc, hcnt]
  exact congrArg (fun n => { slotAt (k + 1) s with busOut := decide (k + 1 < n) }) h1

/-- From its fifth tick on a slot is low where the other nodes leave it low, and that sample measures it. -/
theorem tick_slotAt_low (hk : 5 ≤ k) (hlt : k < 65536) (ts : Stamp) :
    tick false ts (slotAt k s) = { slotTick f ts (slotMeasured k k s) with time := s.time + k + 1 } := by
  have hlow : lineOf false (slotAt k s) = false := by
    simpa [lineOf, slotAt] using hk
  rw [tick_txAck (s := slotAt k s) rfl, hlow, armTxAck_low (s := { slotAt k s with wdtcnt := 0 }) helem]
  exact congrArg (fun t => { slotTick f ts t with time := s.time + k + 1 }) (measureSlot_slotAt htiming hk hlt)

/-! ## A whole slot -/

variable (hfault : s.fault = none)

include hfault

/-- While the line stays high, driven by the other nodes or by the sender's own pulse, the slot goes on. -/
theorem drive_slotAt {exts : List Bool} (hlen : k + exts.length < 47)
    (hline : k + exts.length ≤ 5 ∨ ∀ e ∈ exts, e = true) :
    drive exts (slotAt k s) = slotAt (k + exts.length) s := by
  induction exts generalizing k with
  | nil => rfl
  | cons e es ih =>
    have hsum : k + (e :: es).length = k + 1 + es.length := by
      rw [List.length_cons]
      omega
    rw [hsum] at hlen hline ⊢
    have hhigh : k < 5 ∨ e = true := hline.imp (by omega) fun h => h e List.mem_cons_self
    rw [drive_cons (s := slotAt k s) hfault, tick_slotAt_high htiming helem (by omega) hhigh,
      ih hlen (hline.imp_right fun h e' he' => h e' (List.mem_cons_of_mem e he'))]

/-- A measured slot lasts until ten ticks have passed. -/
theorem drive_slotMeasured {n : Nat} (hk : 5 ≤ k) (hend : k + n = max k 9) (hlt : k < 65536) :
    drive (List.replicate (n + 1) false) (slotMeasured w k s) =
      { slotEnd f w (Config.tsIn (s.time + (k + n))) (slotMeasured w (k + n) s) with
        time := s.time + (k + n) + 1 } := by
  induction n generalizing k with
  | zero =>
    rw [List.replicate_one, drive_cons (s := slotMeasured w k s) hfault, drive_nil,
      tick_slotMeasured helem, slotTick_last htiming (by omega) hlt]
    rfl
  | succ n ih =>
    have hsum : k + (n + 1) = k + 1 + n := by omega
    rw [List.replicate_succ, drive_cons (s := slotMeasured w k s) hfault, tick_slotMeasured helem,
      slotTick_more htiming hk (by omega), hsum]
    exact ih (by omega) (by omega) (by omega)

/-- A slot that the other nodes hold high for w ticks (43_acknowledge.md R124 to R127). -/
theorem drive_openSlot (hw : w ≤ 46) :
    drive (List.replicate w true ++ List.replicate (max (max 5 w + 1) 10 - w) false) (openSlot s) =
      { slotEnd f (max 5 w) (Config.tsIn (s.time + max w 9)) (slotMeasured (max 5 w) (max w 9) s) with
        time := s.time + max w 9 + 1 } := by
  have hhold : drive (List.replicate w true) (slotAt 0 s) = slotAt w s := by
    have hline : ∀ e ∈ List.replicate w true, e = true := fun e he => List.eq_of_mem_replicate he
    have h := drive_slotAt (k := 0) htiming helem hfault (by simpa using by omega) (.inr hline)
    rwa [List.length_replicate, Nat.zero_add] at h
  have hown : drive (List.replicate (5 - w) false) (slotAt w s) = slotAt (max 5 w) s := by
    obtain hshort | hlong := Nat.le_total 5 w
    · rw [Nat.sub_eq_zero_of_le hshort, Nat.max_eq_right hshort]
      rfl
    · rw [Nat.max_eq_left hlong]
      have h := drive_slotAt (k := w) (exts := List.replicate (5 - w) false) htiming helem hfault
        (by simpa using by omega) (.inl (by simpa using by omega))
      rwa [List.length_replicate, Nat.add_sub_of_le hlong] at h
  have hlow : drive (List.replicate (max w 9 - max 5 w + 1) false) (slotAt (max 5 w) s) =
      drive (List.replicate (max w 9 - max 5 w + 1) false) (slotMeasured (max 5 w) (max 5 w) s) := by
    rw [List.replicate_succ, drive_cons (s := slotAt (max 5 w) s) hfault,
      drive_cons (s := slotMeasured (max 5 w) (max 5 w) s) hfault,
      tick_slotAt_low htiming helem (Nat.le_max_left 5 w) (by omega), tick_slotMeasured helem]
    rfl
  have hlast : max 5 w + (max w 9 - max 5 w) = max w 9 := by omega
  have hend := drive_slotMeasured (w := max 5 w) (k := max 5 w) (n := max w 9 - max 5 w) htiming helem hfault
    (Nat.le_max_left 5 w) (by omega) (by omega)
  have hsplit : max (max 5 w + 1) 10 - w = (5 - w) + (max w 9 - max 5 w + 1) := by omega
  rw [hsplit, ← List.replicate_append_replicate, drive_openSlot_eq hfault (by simp), drive_append, hhold,
    drive_append, hown, hlow, hend, hlast]

end

end Sys2Proof.Machine

open Sys2Proof Sys2Proof.Machine

/-- Settles O33: the slot stays high for max 5 w ticks (`drive_slotAt`) and, measured, lasts to its tick 9 at least
(`drive_slotMeasured`). -/
theorem senderSlotDecision : Obligations.SenderSlotDecision := by
  intro s f w hfault htiming helem hw high len last
  have hlast : max w 9 = len - 1 := by omega
  have hend : s.time + (len - 1) + 1 = s.time + len := by omega
  have hdrive := drive_openSlot htiming helem hfault hw
  rw [hlast, hend] at hdrive
  exact hdrive

end

section
/-! A receiver's acknowledge slots: the addressed receiver stretches them (43_acknowledge.md R129, R130), any other
takes their pulse and ignores its bit (R131). -/

namespace Sys2Proof.Machine

/-! ## The addressed receiver -/

theorem tick_rxAckdrive {s : State} (h : s.phase = .rxAckdrive) (ext : Bool) (ts : Stamp) :
    tick ext ts s = { armRxAckdrive ts { s with wdtcnt := 0 } with time := s.time + 1 } := by
  rw [tick_of_ne_idle (by simp [h])]
  simp [arm, h]

/-- The end of a receive pass leaves the line released (45_frame_receive.md R160, R164). -/
theorem rxFinish_busOut (ts : Stamp) (s : State) : (rxFinish ts s).busOut = false := by
  obtain ⟨_, h⟩ | ⟨_, _, h⟩ | ⟨_, _, h⟩ := conclude_cases (register ts s) <;> rw [rxFinish, h] <;> rfl

/-- Nothing after a slot drives the line (45_frame_receive.md R159). -/
theorem ackDone_busOut {s : State} (h : s.busOut = false) (ts : Stamp) : (ackDone ts s).1.busOut = false := by
  obtain ⟨_, hdone⟩ | ⟨_, _, hdone⟩ | ⟨f, k, _, _, hdone⟩ := ackDone_cases ts s <;> rw [hdone]
  · exact h
  · exact rxFinish_busOut ts _
  · cases k <;> exact h

theorem ifContinues_busOut {r : State × Bool} {next : State → State} (h : r.1.busOut = false)
    (hnext : ∀ t, (next t).busOut = t.busOut) : (ifContinues r next).busOut = false := by
  unfold ifContinues
  split
  · rw [hnext, h]
  · exact h

/-- The receiver's stretch of a slot, k ticks after its first high sample, ends with slot tick 8 (43_acknowledge.md
R130). -/
structure Stretching (k : Nat) (s : State) : Prop where
  timing : s.par.SourceTiming
  phase : s.phase = .rxAckdrive
  busOut : s.busOut = true
  cnt : s.cnt.toNat = k

namespace Stretching

variable {k : Nat} {s : State} (h : Stretching k s)

include h

/-- Inside the stretch the line is held and the tick counted, whatever the line shows. -/
theorem tick_more (hk : k + 1 < 9) (ext : Bool) (ts : Stamp) : Stretching (k + 1) (tick ext ts s) := by
  have hinc : (satInc s.cnt).toNat = k + 1 := by
    rw [satInc_toNat, h.cnt]
    omega
  obtain ⟨_, h0, _⟩ := id h.timing
  have hmore : (satInc s.cnt).toNat < s.par.t0High := by rwa [hinc, h0]
  rw [tick_rxAckdrive h.phase, armRxAckdrive, if_pos hmore]
  exact ⟨h.timing, h.phase, rfl, hinc⟩

/-- The ninth tick of the slot ends it. -/
theorem tick_last (hk : k + 1 = 9) (ext : Bool) (ts : Stamp) : (tick ext ts s).busOut = false := by
  obtain ⟨_, h0, _⟩ := id h.timing
  have hover : ¬ (satInc s.cnt).toNat < s.par.t0High := by
    rw [h0, satInc_lt_iff (by decide), h.cnt]
    omega
  rw [tick_rxAckdrive h.phase, armRxAckdrive, if_neg hover]
  exact ifContinues_busOut (ackDone_busOut rfl ts) fun _ => rfl

theorem busTrace_eq {exts : List Bool} (hlen : k + exts.length = 9) (hpos : 0 < exts.length) (e : Bool) :
    busTrace (exts ++ [e]) s = List.replicate exts.length true ++ [false] := by
  induction exts generalizing k s with
  | nil => cases hpos
  | cons x xs ih =>
    rw [List.length_cons] at hlen
    rw [List.cons_append, busTrace, h.busOut, List.length_cons, List.replicate_succ, List.cons_append]
    congr 1
    cases xs with
    | nil =>
      rw [List.nil_append, busTrace, h.tick_last (by simpa using hlen)]
      rfl
    | cons y ys =>
      have hmore : k + 1 < 9 := by
        rw [List.length_cons] at hlen
        omega
      exact ih (h.tick_more hmore _ _) (by omega) (Nat.succ_pos _)

end Stretching

/-- The first high sample of its own slot starts the addressed receiver's stretch (43_acknowledge.md R129). -/
theorem stretching_of_high {s : State} {f : FieldCode} (htiming : s.par.SourceTiming) (hphase : s.phase = .rxWaithigh)
    (helem : s.elem = .el f .ack) (hforme : s.forme = true) (ts : Stamp) : Stretching 1 (tick true ts s) := by
  have hline : lineOf true s = true := Bool.or_true _
  have harm : armRxWaithigh true { s with wdtcnt := 0 } =
      { s with wdtcnt := 0, phase := .rxAckdrive, cnt := 1, busOut := true } := by
    simp [armRxWaithigh, helem, isOwnSlot, hforme]
  rw [tick_rxWaithigh hphase, hline, harm]
  exact ⟨htiming, rfl, rfl, rfl⟩

/-! ## Any symbol of a receive pass -/

/-- What delivers the bit leaves the parameters alone. -/
theorem rxDeliver_par (b : Bool) (ts : Stamp) (s : State) : (rxDeliver b ts s).1.par = s.par :=
  congrArg HostSide.par (rxDeliver_keeps s b ts).host

/-- A receiver that waits for a symbol of element (f, k) which is not a slot it answers, its line released
(41_bitcodec.md R103). -/
structure ReceivingSymbol (f : FieldCode) (k : Kind) (s : State) : Prop where
  fault : s.fault = none
  timing : s.par.SourceTiming
  busOut : s.busOut = false
  elem : s.elem = .el f k
  notOwn : k = .ack → s.forme = false

namespace ReceivingSymbol

variable {f : FieldCode} {k : Kind} {s : State} (h : ReceivingSymbol f k s)

include h

theorem of_measuring (n : Nat) : ReceivingSymbol f k (measuring n s) :=
  ⟨h.fault, h.timing, h.busOut, h.elem, h.notOwn⟩

theorem tick_rise (hphase : s.phase = .rxWaithigh) (ts : Stamp) : tick true ts s = measuring 1 s := by
  have harm : armRxWaithigh true { s with wdtcnt := 0 } = { s with wdtcnt := 0, phase := .rxMeas, cnt := 1 } := by
    simp only [armRxWaithigh, h.elem]
    simpa [isOwnSlot] using h.notOwn
  rw [tick_rxWaithigh hphase, lineOf_of_released h.busOut, harm]
  rfl

/-- Another high sample is counted (41_bitcodec.md R104). -/
theorem tick_high {w n : Nat} (hw : NotCutOff s.par w) (hn : n + 1 ≤ w) (ts : Stamp) :
    tick true ts (measuring n s) = measuring (n + 1) s := by
  have hle : (sat16 (n + 1)).toNat ≤ w := by
    rw [sat16_toNat]
    omega
  have hwait := timedOut_of_notCutOff h.timing hw hle
  have harm : armRxMeas true ts { measuring n s with wdtcnt := 0 } =
      { measuring n s with cnt := sat16 (n + 1) } := by
    simp [armRxMeas, measuring, h.elem, countOrTimeout, satInc_sat16, hwait]
  rw [tick_rxMeas (s := measuring n s) rfl, lineOf_of_released (s := measuring n s) h.busOut, harm]
  rfl

/-- A pulse of n + 1 high samples is measured to its end. -/
theorem drive_high (hphase : s.phase = .rxWaithigh) {w n : Nat} (hw : NotCutOff s.par w) (hn : n + 1 ≤ w) :
    drive (List.replicate (n + 1) true) s = measuring (n + 1) s := by
  induction n with
  | zero => exact (drive_cons h.fault _ _).trans (h.tick_rise hphase _)
  | succ n ih =>
    rw [List.replicate_succ', drive_append, ih (Nat.le_of_succ_le hn), drive_cons (h.of_measuring (n + 1)).fault,
      h.tick_high hw hn, drive_nil]

/-- The first low sample ends the pulse: its width decides the bit, which is delivered (41_bitcodec.md R104). At the
source's timing nothing of a 0's pulse is left to wait out. -/
theorem tick_fall {w : Nat} (hw : w < 65536) (ts : Stamp) :
    tick false ts (measuring w s) =
      { ifContinues (rxDeliver (decide (w ≤ 7)) ts (measuring w s)) fun t =>
          { t with phase := .rxWaithigh, cnt := 0 } with
        time := s.time + w + 1 } := by
  have hcnt : (sat16 w).toNat = w := by
    rw [sat16_toNat]
    omega
  obtain ⟨_, _, _, hthresh, _, _, _, _, hrem⟩ := id h.timing
  have hnone : (!decide (w ≤ 7) && decide (w + 1 < 9)) = false := by
    by_cases hw7 : w ≤ 7 <;> simp [hw7]
    omega
  have harm : armRxMeas false ts { measuring w s with wdtcnt := 0 } =
      ifContinues (rxDeliver (decide (w ≤ 7)) ts (measuring w s)) (afterBit (decide (w ≤ 7)) w) := by
    simp [armRxMeas, measuring, h.elem, classify, hthresh, hcnt]
  have hpar : (rxDeliver (decide (w ≤ 7)) ts (measuring w s)).1.par.tRem = 9 := by
    rw [rxDeliver_par]
    exact hrem
  rw [tick_rxMeas (s := measuring w s) rfl, lineOf_of_released (s := measuring w s) h.busOut, harm, ifContinues,
    ifContinues, afterBit, hpar, hnone]
  rfl

end ReceivingSymbol

/-! ## A slot that is not answered -/

/-- A block that runs on and does not drive the line before any of these ticks keeps BUS_OUT low in all of them. -/
theorem busTrace_eq_low {exts : List Bool} {s : State}
    (h : ∀ n < exts.length, (drive (exts.take n) s).fault = none ∧ (drive (exts.take n) s).busOut = false) :
    busTrace exts s = List.replicate exts.length false := by
  induction exts generalizing s with
  | nil => rfl
  | cons e es ih =>
    obtain ⟨hfault, hbus⟩ : s.fault = none ∧ s.busOut = false := h 0 (Nat.succ_pos _)
    rw [busTrace, hbus, List.length_cons, List.replicate_succ, ih]
    intro n hn
    rw [← drive_cons hfault, ← List.take_succ_cons]
    exact h (n + 1) (Nat.succ_lt_succ hn)

/-- Where a value follows a slot, the slot's bit is ignored and the value is waited for (43_acknowledge.md R131,
45_frame_receive.md R159). -/
theorem rxDeliver_slot {s : State} {f g : FieldCode} {d : Byte} (helem : s.elem = .el f .ack)
    (hnext : nextElem s.elem s.didx s.frame.len = some (.el g .val, d)) (b : Bool) (ts : Stamp) :
    rxDeliver b ts s = (initVal g { s with elem := .el g .val, didx := d }, true) := by
  simp only [rxDeliver, helem]
  rw [ackDone, hnext]
  rfl

section

variable {s : State} {f g : FieldCode} {d : Byte} (h : ReceivingSymbol f .ack s) (hphase : s.phase = .rxWaithigh)
  (hnext : nextElem s.elem s.didx s.frame.len = some (.el g .val, d))

include h hphase hnext

/-- A slot's pulse and the low samples after it, at a receiver that does not answer it. -/
theorem drive_discardedSlot {w : Nat} (hpos : 1 ≤ w) (hw : w < 47) {m : Nat} (hm : m < 47) :
    drive (List.replicate w true ++ List.replicate (m + 1) false) s =
      rxNext g (sat16 m) (w + 1 + m) { s with didx := d } := by
  obtain ⟨n, rfl⟩ := Nat.exists_eq_add_one.mpr hpos
  have htaken : tick false (Config.tsIn (measuring (n + 1) s).time) (measuring (n + 1) s) =
      rxNext g (sat16 0) (n + 1 + 1) { s with didx := d } := by
    rw [h.tick_fall (by omega), rxDeliver_slot (s := measuring (n + 1) s) h.elem hnext]
    rfl
  have hwait : ReceivingValue g (rxNext g (sat16 0) (n + 1 + 1) { s with didx := d }) :=
    ⟨h.fault, h.timing, h.busOut, rfl⟩
  rw [drive_append, h.drive_high hphase (.inl hw) (Nat.le_refl _), List.replicate_succ,
    drive_cons (h.of_measuring (n + 1)).fault, htaken, hwait.drive_low rfl rfl (m := 0) rfl (by omega)]
  simp [rxNext, Nat.add_assoc]

/-- In none of its ticks does that receiver drive the line (43_acknowledge.md R131). -/
theorem busTrace_discardedSlot {w : Nat} (hpos : 1 ≤ w) (hw : w < 47) {m : Nat} (hm : m < 47) :
    busTrace (List.replicate w true ++ List.replicate (m + 1) false) s = List.replicate (w + (m + 1)) false := by
  rw [busTrace_eq_low, List.length_append, List.length_replicate, List.length_replicate]
  intro n hn
  rw [List.length_append, List.length_replicate, List.length_replicate] at hn
  rw [List.take_append, List.take_replicate, List.take_replicate, List.length_replicate]
  obtain hin | hafter : n ≤ w ∨ ∃ j, n = w + (j + 1) ∧ j ≤ m := by
    obtain hgt | hle := Nat.lt_or_ge w n
    · exact .inr ⟨n - w - 1, by omega⟩
    · exact .inl hle
  · rw [Nat.min_eq_left hin, Nat.sub_eq_zero_of_le hin, Nat.zero_min, List.replicate_zero, List.append_nil]
    cases n with
    | zero => exact ⟨h.fault, h.busOut⟩
    | succ k =>
      rw [h.drive_high hphase (.inl hw) hin]
      exact ⟨h.fault, h.busOut⟩
  · obtain ⟨j, rfl, hj⟩ := hafter
    rw [Nat.min_eq_right (Nat.le_add_right w (j + 1)), Nat.add_sub_cancel_left, Nat.min_eq_left (Nat.succ_le_succ hj),
      drive_discardedSlot h hphase hnext hpos hw (by omega)]
    exact ⟨h.fault, h.busOut⟩

end

theorem exec_ackSlotNotAcked {s : State} (h : s.fault = none) :
    exec .ackSlotNotAcked s = .next (drive (wave s.par [.one]) s) := live_none h _

theorem exec_ackSlotAcked {s : State} (h : s.fault = none) :
    exec .ackSlotAcked s = .next (drive (wave s.par [.zero]) s) := live_none h _

end Sys2Proof.Machine

open Sys2Proof Sys2Proof.Machine

/-- Settles O34: the first high sample starts the stretch (`stretching_of_high`), whose ticks do not read the line
(`Stretching.busTrace_eq`). -/
theorem addressedReceiverStretchesSlot : Obligations.AddressedReceiverStretchesSlot := by
  intro s f exts hfault htiming hphase hbus helem hforme hlen
  have hstretch := stretching_of_high htiming hphase helem hforme (Config.tsIn s.time)
  rw [busTrace, hbus, hstretch.busTrace_eq (by rw [hlen]) (by rw [hlen]; decide), hlen]

/-- Settles O35: the slot's pulse is taken and its bit ignored (`drive_discardedSlot`), and no tick drives the line
(`busTrace_discardedSlot`). -/
theorem discardedSlotMovesOn : Obligations.DiscardedSlotMovesOn := by
  intro s f g d hfault htiming hphase hbus helem hforme hnext
  have hrx : ReceivingSymbol f .ack s := ⟨hfault, htiming, hbus, helem, fun _ => hforme⟩
  have hone : wave s.par [.one] = List.replicate 5 true ++ List.replicate (4 + 1) false := wave_one htiming
  have hzero : wave s.par [.zero] = List.replicate 9 true ++ List.replicate (0 + 1) false := wave_zero htiming
  refine ⟨?_, ?_, ?_, ?_⟩
  · rw [exec_ackSlotNotAcked hfault, hone, drive_discardedSlot hrx hphase hnext (by decide) (by decide) (by decide)]
    rfl
  · rw [exec_ackSlotAcked hfault, hzero, drive_discardedSlot hrx hphase hnext (by decide) (by decide) (by decide)]
    rfl
  · exact busTrace_discardedSlot hrx hphase hnext (w := 5) (m := 4) (by decide) (by decide) (by decide)
  · exact busTrace_discardedSlot hrx hphase hnext (w := 9) (m := 0) (by decide) (by decide) (by decide)

end

section
/-! What a sender puts on the line together with where it gets to, whatever the line shows meanwhile: a symbol, a value,
a field with its parity symbol (41_bitcodec.md R98 to R101, R111). -/

namespace Sys2Proof.Machine

/-! ## Runs that the line does not change -/

/-- From s on the block puts the given levels on the line and is then in t, whatever the other nodes drive. -/
def SendsTo (bs : List Bool) (s t : State) : Prop :=
  ∀ exts, exts.length = bs.length → busTrace exts s = bs ∧ drive exts s = t

/-- The outputs of two runs in a row: the first has not ended in a fault, so it is the run of its ticks. -/
theorem busTrace_append_of_drive {xs : List Bool} {s t : State} (h : drive xs s = t) (hfault : t.fault = none)
    (ys : List Bool) : busTrace (xs ++ ys) s = busTrace xs s ++ busTrace ys t := by
  induction xs generalizing s with
  | nil => rw [← h]; rfl
  | cons x xs ih =>
    cases hs : s.fault with
    | none =>
      rw [drive_cons hs] at h
      rw [List.cons_append, busTrace, busTrace, ih h, List.cons_append]
    | some r =>
      rw [drive_fault hs] at h
      rw [← h, hs] at hfault
      cases hfault

theorem SendsTo.trans {as bs : List Bool} {s t u : State} (h : SendsTo as s t) (hfault : t.fault = none)
    (h' : SendsTo bs t u) : SendsTo (as ++ bs) s u := by
  intro exts hlen
  obtain ⟨xs, ys, rfl, hxs⟩ : ∃ xs ys, exts = xs ++ ys ∧ xs.length = as.length := by
    refine ⟨exts.take as.length, exts.drop as.length, (List.take_append_drop _ _).symm, ?_⟩
    rw [List.length_take, hlen, List.length_append]
    omega
  have hys : ys.length = bs.length := by
    rw [List.length_append, List.length_append] at hlen
    omega
  obtain ⟨htrace, hdrive⟩ := h xs hxs
  obtain ⟨htrace', hdrive'⟩ := h' ys hys
  rw [busTrace_append_of_drive hdrive hfault, drive_append, hdrive, htrace, htrace']
  exact ⟨rfl, hdrive'⟩

/-! ## A symbol -/

/-- What the tick after a symbol's last one, u, begins (41_bitcodec.md R99). -/
def afterSymbol (u : State) : State := { txElemDone (Config.tsIn u.time) u with time := u.time + 1 }

/-- What follows an element whose last symbol is in its last tick (41_bitcodec.md R99). -/
def afterElem (u : State) : State := { advanceTx (Config.tsIn u.time) u with time := u.time + 1 }

theorem InSymbol.sendsTo {s : State} (h : InSymbol s) (hcnt : s.cnt = 0) (hhold : 0 < s.hold.toNat) :
    SendsTo (pulse s.hold.toNat s.per.toNat) s (afterSymbol (symbolEnd s)) := by
  intro exts hlen
  have hper := h.hold
  have hzero : s.cnt.toNat = 0 := by rw [hcnt]; rfl
  have hemits := h.emits (rest := []) fun _ _ => trivial
  rw [hzero, List.drop_zero, List.append_nil] at hemits
  refine ⟨hemits.busTrace_eq hlen, ?_⟩
  rw [pulse_length (Nat.le_of_lt hper)] at hlen
  obtain rfl | ⟨xs, e, rfl⟩ := List.eq_nil_or_concat exts
  · rw [List.length_nil] at hlen
    omega
  rw [List.concat_eq_append, List.length_append, List.length_singleton] at hlen
  have hnonempty : xs = [] → s.wdtcnt = 0 := by
    rintro rfl
    rw [List.length_nil] at hlen
    omega
  rw [List.concat_eq_append, drive_append, h.drive_eq_symbolEnd hnonempty (by omega),
    drive_cons (s := symbolEnd s) h.fault, tick_txBit_last (s := symbolEnd s) h.phase (symbolEnd_lastTick s)]
  rfl

/-- A bit's symbol (41_bitcodec.md R98). -/
theorem sendsTo_emitBit {s : State} (hfault : s.fault = none) (htiming : s.par.SourceTiming) (b : Bool) :
    SendsTo (symbolWave s.par (symbolOf b)) (emitBit b s) (afterSymbol (symbolEnd (emitBit b s))) := by
  rw [← emitBit_pulse htiming b]
  refine (inSymbol_emitBit hfault htiming b).sendsTo rfl ?_
  obtain ⟨h1, h0, _⟩ := htiming
  rw [emitBit_hold, h1, h0]
  cases b <;> decide

/-- At the source's timing a bit's last tick is the ninth after its first. -/
theorem symbolEnd_emitBit {s : State} (htiming : s.par.SourceTiming) (b : Bool) :
    symbolEnd (emitBit b s) = { emitBit b s with cnt := 9, busOut := false, wdtcnt := 0, time := s.time + 9 } := by
  obtain ⟨_, _, hbit, _⟩ := htiming
  have hper : (emitBit b s).per.toNat = 10 := by rw [emitBit_per, hbit]; rfl
  rw [symbolEnd, hper]
  rfl

theorem symbolEnd_emitBit_time {s : State} (htiming : s.par.SourceTiming) (b : Bool) :
    (symbolEnd (emitBit b s)).time = s.time + 9 := by
  rw [symbolEnd_emitBit htiming]

/-! ## A value -/

/-- The last tick of n + 1 bits of SHIFT sent from s on, all of them taken into PAR (41_bitcodec.md R100). -/
def bitsEnd (n : Nat) (s : State) : State :=
  symbolEnd (emitBit (s.shift.getLsbD 0)
    { s with parity := s.parity ^^ lowParity s.shift (n + 1), nbits := 0, time := s.time + 10 * n })

theorem bitsEnd_time {s : State} (htiming : s.par.SourceTiming) (n : Nat) :
    (bitsEnd n s).time = s.time + 10 * n + 9 := by
  rw [bitsEnd, symbolEnd_emitBit_time]
  exact htiming

theorem afterSymbol_more {u : State} {f : FieldCode} (helem : u.elem = .el f .val) (h : 0 < u.nbits.toNat) :
    afterSymbol u = sendNextBit { u with time := u.time + 1 } := by
  rw [afterSymbol, txElemDone_more helem h]
  rfl

theorem afterSymbol_value {u : State} {f : FieldCode} (helem : u.elem = .el f .val) (h : u.nbits = 0) :
    afterSymbol u = afterElem u := by
  rw [afterSymbol, txElemDone_value helem h]
  rfl

theorem afterSymbol_parity {u : State} {f : FieldCode} (helem : u.elem = .el f .par) :
    afterSymbol u = afterElem u := by
  simp [afterSymbol, afterElem, txElemDone, moreBits, helem]

/-- One bit left to send is the last of the bits sent. -/
theorem symbolEnd_lastBit {s : State} (hn : s.nbits.toNat = 1) : symbolEnd (sendNextBit s) = bitsEnd 0 s := by
  have hnbits : s.nbits - 1 = 0 := by bv_omega
  have hparity : lowParity s.shift (0 + 1) = s.shift.getLsbD 0 := by simp
  rw [sendNextBit_eq_emitBit, takeBit, hn, hnbits, bitsEnd, hparity]
  rfl

/-- After one of several bits the others are sent from the next tick on. -/
theorem bitsEnd_succ {s : State} (htiming : s.par.SourceTiming) {n : Nat} (hn : s.nbits.toNat = n + 2) :
    bitsEnd n { symbolEnd (sendNextBit s) with time := (symbolEnd (sendNextBit s)).time + 1 } = bitsEnd (n + 1) s := by
  have htime : s.time + 9 + 1 + 10 * n = s.time + 10 * (n + 1) := by omega
  have hbit : s.nbits.toNat - 1 = n + 1 := by omega
  rw [sendNextBit_eq_emitBit, symbolEnd_emitBit (s := takeBit s) htiming, bitsEnd, bitsEnd,
    lowParity_succ s.shift (n + 1), ← htime, takeBit, hbit, ← Bool.xor_assoc]
  rfl

section

variable {f : FieldCode} {n : Nat} {s : State} (h : SendingValue f s)

include h

theorem SendingValue.sendsTo_bit (hn : s.nbits.toNat = n + 1) :
    SendsTo (symbolWave s.par (symbolOf (s.shift.getLsbD n))) (sendNextBit s)
      (afterSymbol (symbolEnd (sendNextBit s))) := by
  have hbit := sendsTo_emitBit (s := takeBit s) h.fault h.timing (s.shift.getLsbD (s.nbits.toNat - 1))
  rwa [← sendNextBit_eq_emitBit, hn, Nat.add_sub_cancel] at hbit

/-- From a value's bit on, the bits still to come are sent, most significant first (41_bitcodec.md R100). -/
theorem SendingValue.sendsTo (hn : s.nbits.toNat = n + 1) :
    SendsTo (wave s.par ((msbFirst s.shift (n + 1)).map symbolOf)) (sendNextBit s) (afterElem (bitsEnd n s)) := by
  induction n generalizing s with
  | zero =>
    have hbit := h.sendsTo_bit hn
    rw [symbolEnd_lastBit hn, afterSymbol_value (u := bitsEnd 0 s) h.elem rfl] at hbit
    rwa [msbFirst, List.map_cons, wave_cons, msbFirst, List.map_nil, wave_nil, List.append_nil]
  | succ n ih =>
    have hleft : (symbolEnd (sendNextBit s)).nbits.toNat = n + 1 := by
      change (s.nbits - 1).toNat = n + 1
      bv_omega
    have hbit := h.sendsTo_bit hn
    rw [afterSymbol_more (u := symbolEnd (sendNextBit s)) h.elem (by omega)] at hbit
    have hrest := ih (s := { symbolEnd (sendNextBit s) with time := (symbolEnd (sendNextBit s)).time + 1 })
      ⟨h.fault, h.timing, h.elem⟩ hleft
    rw [bitsEnd_succ h.timing hn] at hrest
    rw [msbFirst, List.map_cons, wave_cons]
    exact hbit.trans h.fault hrest

end

/-! ## A field -/

/-- The last element of field f before a slot: its parity symbol where it has one (40_step.md R90). -/
def lastElem (f : FieldCode) : Elem := .el f (if hasParity f then .par else .val)

/-- The datapath once field f's value v is sent, at the first tick of its last symbol (41_bitcodec.md R100, R101). -/
def fieldSent (f : FieldCode) (v : BitVec 12) (s : State) : State :=
  { s with
    elem := lastElem f
    shift := v
    parity := parityOf v
    nbits := 0
    wdtcnt := 0
    time := s.time + 10 * ((sentSymbols f v).length - 1) }

/-- A sender in the last tick of field f's value v and its parity symbol, sent from s on. -/
def fieldEnd (f : FieldCode) (v : BitVec 12) (s : State) : State :=
  symbolEnd (emitBit (if hasParity f then parityOf v else v.getLsbD 0) (fieldSent f v s))

theorem sentSymbols_length (f : FieldCode) (v : BitVec 12) :
    (sentSymbols f v).length = fieldWidth f + if hasParity f then 1 else 0 := by
  cases hf : hasParity f <;> simp [sentSymbols, hf]

section

variable {s : State} {f : FieldCode} {v : BitVec 12} (hfault : s.fault = none) (htiming : s.par.SourceTiming)
  (hvalue : fieldValue s.frame s.didx f = some v)

include hfault htiming hvalue

theorem sendsTo_value {n : Nat} (hn : fieldWidth f = n + 1) :
    SendsTo (wave s.par ((msbFirst v (fieldWidth f)).map symbolOf)) (txAt f s)
      (afterElem (bitsEnd n (loadValue f v s))) := by
  have hload : SendingValue f (loadValue f v s) := ⟨hfault, htiming, rfl⟩
  rw [txAt_eq hvalue, hn]
  exact hload.sendsTo ((fieldWidth_toNat f).trans hn)

/-- A sender at the first tick of a field sends the field's value and its parity symbol (30_encoding.md R68). -/
theorem sendsTo_field : SendsTo (wave s.par (sentSymbols f v)) (txAt f s) (afterElem (fieldEnd f v s)) := by
  obtain ⟨n, hn⟩ := Nat.exists_eq_add_one.mpr (fieldWidth_pos_of_fieldValue hvalue)
  have hbits := sendsTo_value hfault htiming hvalue hn
  have hparity : parityOf v = (false ^^ lowParity v (n + 1)) := by rw [parityOf_fieldValue hvalue, hn, Bool.false_xor]
  cases hf : hasParity f with
  | false =>
    have hend : bitsEnd n (loadValue f v s) = fieldEnd f v s := by
      simp only [bitsEnd, loadValue, fieldEnd, fieldSent, lastElem, sentSymbols_length, hf, hn, hparity]
      rfl
    rw [hend] at hbits
    simpa [sentSymbols, hf] using hbits
  | true =>
    have hlength : (sentSymbols f v).length = n + 2 := by rw [sentSymbols_length, hn, hf, if_pos rfl]
    have htime : (bitsEnd n (loadValue f v s)).time + 1 = (fieldSent f v s).time := by
      have hend := bitsEnd_time (s := loadValue f v s) htiming n
      have hstart : (loadValue f v s).time = s.time := rfl
      have hsent : (fieldSent f v s).time = s.time + 10 * (n + 1) := by rw [fieldSent, hlength]; rfl
      omega
    have hnext : afterElem (bitsEnd n (loadValue f v s)) = emitBit (parityOf v) (fieldSent f v s) := by
      rw [afterElem, advanceTx_value (s := bitsEnd n (loadValue f v s)) hf rfl, htime, fieldSent, lastElem, hf, hparity]
      rfl
    have helem : (fieldEnd f v s).elem = .el f .par := by simp [fieldEnd, symbolEnd, fieldSent, lastElem, hf]
    have hpar : SendsTo (symbolWave s.par (symbolOf (parityOf v))) (emitBit (parityOf v) (fieldSent f v s)) _ :=
      sendsTo_emitBit (s := fieldSent f v s) hfault htiming (parityOf v)
    have hend : symbolEnd (emitBit (parityOf v) (fieldSent f v s)) = fieldEnd f v s := by
      rw [fieldEnd, hf, if_pos rfl]
    rw [hend, afterSymbol_parity helem] at hpar
    rw [hnext] at hbits
    simpa [sentSymbols, hf] using hbits.trans hfault hpar

end

end Sys2Proof.Machine
end

section
/-! A field row at a sender whose slot no other node stretches: NAK where the frame is Normal (43_acknowledge.md R132,
60_exceptions.md R187). -/

namespace Sys2Proof.Machine

/-! ## The result of an error -/

/-- A result word by its parts (30_encoding.md R73). -/
theorem resultWord_eq_ofNat (kind : BitVec 4) (f : FieldCode) (i : Byte) :
    resultWord kind f i = BitVec.ofNat 16 (kind.toNat + 16 * (fieldNum f).toNat + 256 * i.toNat) := by
  have hkind := kind.isLt
  have hfield := (fieldNum f).isLt
  have hindex := i.isLt
  apply BitVec.eq_of_toNat_eq
  rw [resultWord, BitVec.toNat_append, BitVec.toNat_append, BitVec.toNat_append,
    ← Nat.shiftLeft_add_eq_or_of_lt kind.isLt, ← Nat.shiftLeft_add_eq_or_of_lt (fieldNum f).isLt,
    ← Nat.shiftLeft_add_eq_or_of_lt (0#1).isLt]
  simp [Nat.shiftLeft_eq]
  omega

theorem resultWord_errIndex (kind : BitVec 4) (f : FieldCode) (i : Byte) :
    resultWord kind f (errIndex f i) = errorCode kind.toNat f i := by
  rw [resultWord_eq_ofNat, errorCode, errIndex]
  congr 2
  split <;> rfl

/-! ## From a field to its slot -/

theorem advanceTx_eq {s : State} {e : Elem} {d : Byte} (h : nextElem s.elem s.didx s.frame.len = some (e, d))
    (ts : Stamp) : advanceTx ts s = beginTxElem e ts { s with didx := d } := by
  rw [advanceTx, h]

/-- A slot is opened where it is sent or the frame is Normal (43_acknowledge.md R123). -/
theorem beginAck_open {s : State} (h : s.par.bcastAckSlot = .emit ∨ s.frame.mode ≠ s.par.modeBcastBit)
    (ts : Stamp) : beginAck ts s = openSlot s := by
  rw [beginAck, isBroadcast_eq]
  split
  · next hskip hmode =>
    obtain hemit | hnormal := h
    · rw [hskip] at hemit
      cases hemit
    · exact absurd (of_decide_eq_true hmode) hnormal
  · rfl
  · rfl

/-- After a parity symbol comes the slot, where the field has one (40_step.md R90). -/
theorem advanceTx_slot {s : State} {f : FieldCode}
    (hslot : nextElem s.elem s.didx s.frame.len = some (.el f .ack, s.didx))
    (hopen : s.par.bcastAckSlot = .emit ∨ s.frame.mode ≠ s.par.modeBcastBit) (ts : Stamp) :
    advanceTx ts s = openSlot { s with elem := .el f .ack } :=
  (advanceTx_eq hslot ts).trans (beginAck_open (s := { s with elem := .el f .ack }) hopen ts)

/-- The sender that opens field f's slot, the value v and its parity symbol sent from s on. -/
def slotStart (f : FieldCode) (v : BitVec 12) (s : State) : State :=
  { fieldEnd f v s with elem := .el f .ack, time := s.time + 10 * (fieldWidth f + 1) }

section

variable {s : State} {f : FieldCode} {v : BitVec 12} (hfault : s.fault = none) (htiming : s.par.SourceTiming)
  (hvalue : fieldValue s.frame s.didx f = some v)

include htiming

theorem fieldEnd_time (hvalue : fieldValue s.frame s.didx f = some v) :
    (fieldEnd f v s).time + 1 = s.time + 10 * (sentSymbols f v).length := by
  have hend : (fieldEnd f v s).time = (fieldSent f v s).time + 9 :=
    symbolEnd_emitBit_time (s := fieldSent f v s) htiming _
  have hstart : (fieldSent f v s).time = s.time + 10 * ((sentSymbols f v).length - 1) := rfl
  have hpos := fieldWidth_pos_of_fieldValue hvalue
  have hlength := sentSymbols_length f v
  omega

include hfault hvalue

/-- From the first tick of a field that has a slot to that slot's first tick. -/
theorem sendsTo_openSlot (hparity : hasParity f = true)
    (hslot : nextElem (.el f .par) s.didx s.frame.len = some (.el f .ack, s.didx))
    (hopen : s.par.bcastAckSlot = .emit ∨ s.frame.mode ≠ s.par.modeBcastBit) :
    SendsTo (wave s.par (sentSymbols f v)) (txAt f s) (openSlot (slotStart f v s)) := by
  have hnext : nextElem (fieldEnd f v s).elem (fieldEnd f v s).didx (fieldEnd f v s).frame.len =
      some (.el f .ack, s.didx) := by
    have helem : (fieldEnd f v s).elem = .el f .par := by simp [fieldEnd, symbolEnd, fieldSent, lastElem, hparity]
    rw [helem]
    exact hslot
  have hafter : afterElem (fieldEnd f v s) = openSlot (slotStart f v s) := by
    rw [afterElem, advanceTx_slot (s := fieldEnd f v s) hnext hopen, fieldEnd_time htiming hvalue,
      sentSymbols_length, hparity, if_pos rfl]
    rfl
  rw [← hafter]
  exact sendsTo_field hfault htiming hvalue

/-- A field row at a sender: whatever its value and parity symbols, the slot decides (43_acknowledge.md R124). -/
theorem drive_ackField (hparity : hasParity f = true)
    (hslot : nextElem (.el f .par) s.didx s.frame.len = some (.el f .ack, s.didx))
    (hopen : s.par.bcastAckSlot = .emit ∨ s.frame.mode ≠ s.par.modeBcastBit) (x : AckField (fieldWidth f)) :
    drive (wave s.par (ackFieldSymbols x)) (txAt f s) =
      drive (wave s.par [symbolOf x.k]) (openSlot (slotStart f v s)) := by
  have hsymbols : ackFieldSymbols x = (msbFirst x.v (fieldWidth f) ++ [x.p]).map symbolOf ++ [symbolOf x.k] := by
    simp [ackFieldSymbols, valueSymbols]
  have hlength : (wave s.par ((msbFirst x.v (fieldWidth f) ++ [x.p]).map symbolOf)).length =
      (wave s.par (sentSymbols f v)).length := by
    rw [wave_map_symbolOf_length htiming, sentSymbols_wave_length htiming, sentSymbols_length, hparity]
    simp
  obtain ⟨_, hdrive⟩ := sendsTo_openSlot hfault htiming hvalue hparity hslot hopen _ hlength
  rw [hsymbols, wave_append, drive_append, hdrive]

/-- A Normal frame's field whose slot is not stretched ends the pass in NAK in the slot's tick 9 (43_acknowledge.md
R132). -/
theorem field_notAcked (hparity : hasParity f = true)
    (hslot : nextElem (.el f .par) s.didx s.frame.len = some (.el f .ack, s.didx))
    (hnormal : s.frame.mode ≠ s.par.modeBcastBit) (x : AckField (fieldWidth f)) (hk : x.k = true)
    {ticks : Nat} (hticks : ticks = 10 * (fieldWidth f + 2)) :
    ∃ t, live (txAt f s) (driveSymbols (ackFieldSymbols x)) = .next t ∧ t.fault = none ∧ t.phase = .idle ∧
      t.cnt = 0 ∧ t.busOut = false ∧ t.frame = s.frame ∧ t.txResult = errorCode 2 f s.didx ∧ t.respActive = false ∧
      t.events = s.events ++ stamped (s.time + ticks - 1)
        (.txDone (errorCode 2 f s.didx) :: errorLog s (errorCode 2 f s.didx)) ∧
      t.time = s.time + ticks := by
  have hstart : (txAt f s).fault = none ∧ (txAt f s).par = s.par := by
    rw [txAt_eq hvalue]
    exact ⟨hfault, rfl⟩
  obtain ⟨hnofault, hpar⟩ := hstart
  have hrun := drive_ackField hfault htiming hvalue hparity hslot (.inr hnormal) x
  have hone : wave s.par [symbolOf x.k] = List.replicate 5 true ++ List.replicate 5 false := by
    rw [hk]
    exact wave_one htiming
  have hdecided : drive (List.replicate 5 true ++ List.replicate 5 false) (openSlot (slotStart f v s)) =
      { slotEnd f 5 (Config.tsIn ((slotStart f v s).time + 9)) (slotMeasured 5 9 (slotStart f v s)) with
        time := (slotStart f v s).time + 9 + 1 } :=
    drive_openSlot (s := slotStart f v s) (f := f) (w := 5) htiming rfl hfault (by decide)
  have hnak : ¬ (7 < 5 ∨ s.frame.mode = s.par.modeBcastBit) := by simpa using hnormal
  have hend : ∀ ts, slotEnd f 5 ts (slotMeasured 5 9 (slotStart f v s)) =
      txEnd .nak f (errIndex f s.didx) ts (slotMeasured 5 9 (slotStart f v s)) := fun _ => if_neg hnak
  have hstop : s.time + 10 * (fieldWidth f + 1) + 9 = s.time + ticks - 1 := by omega
  have htime : s.time + 10 * (fieldWidth f + 1) + 9 + 1 = s.time + ticks := by omega
  have hresult : resultWord (txKindNum .nak) f (errIndex f s.didx) = errorCode 2 f s.didx := resultWord_errIndex _ _ _
  refine ⟨_, live_none hnofault _, ?_⟩
  rw [driveSymbols, hpar, hrun, hone, hdecided, hend]
  refine ⟨hfault, rfl, rfl, rfl, rfl, hresult, rfl, ?_, htime⟩
  rw [← hstop, ← hresult]
  rfl

end

end Sys2Proof.Machine

open Sys2Proof Sys2Proof.Machine

/-- Settles O27: the field goes out whatever the row's symbols are (`drive_ackField`), and a slot of five high ticks is
not acknowledged (`drive_openSlot`). -/
theorem fieldRowNotAcknowledgedAtSender : Obligations.FieldRowNotAcknowledgedAtSender := by
  intro s f row hfault htiming hnormal hrow
  obtain ⟨rfl, x, hk, rfl⟩ | ⟨rfl, x, hk, rfl⟩ | ⟨rfl, x, hk, rfl⟩ | ⟨rfl, hidx, x, hk, rfl⟩ := hrow
  · exact field_notAcked (f := .slave) hfault htiming rfl rfl rfl hnormal x hk rfl
  · exact field_notAcked (f := .control) hfault htiming rfl rfl rfl hnormal x hk rfl
  · exact field_notAcked (f := .length) hfault htiming rfl rfl rfl hnormal x hk rfl
  · have hvalue : fieldValue s.frame s.didx .data = some (s.frame.data[s.didx.toNat].setWidth 12) :=
      congrArg (Option.map _) (Vector.getElem?_eq_getElem hidx)
    exact field_notAcked (f := .data) hfault htiming hvalue rfl rfl hnormal x hk rfl

end

section
/-! A Broadcast frame under OMIT: every slot is passed over in no time, so the fields follow one another
(43_acknowledge.md R128). -/

namespace Sys2Proof.Machine

/-! ## From one element to the next -/

/-- The frame is Broadcast and its slots are omitted (43_acknowledge.md R128). -/
abbrev SlotsOmitted (s : State) : Prop := s.par.bcastAckSlot = .skip ∧ s.frame.mode = s.par.modeBcastBit

/-- The element that follows field f where slots are passed over (40_step.md R90, 43_acknowledge.md R128). -/
def afterField (f : FieldCode) (didx len : Byte) : Option (Elem × Byte) :=
  match nextElem (lastElem f) didx len with
  | some (.el g .ack, d) => nextElem (.el g .ack) d len
  | r => r

/-- BeginTxElem sets the element itself. -/
theorem beginTxSymbol_elem (e x : Elem) (ts : Stamp) (s : State) :
    beginTxSymbol e ts { s with elem := x } = beginTxSymbol e ts s := by
  unfold beginTxSymbol
  split <;> rfl

/-- A slot that is omitted is passed over in no time (43_acknowledge.md R128). -/
theorem beginAck_omitting {s : State} (homit : SlotsOmitted s) {e : Elem} {d : Byte}
    (hnext : nextElem s.elem s.didx s.frame.len = some (e, d)) (ts : Stamp) :
    beginAck ts s = beginTxSymbol e ts { s with didx := d } := by
  obtain ⟨hskip, hmode⟩ := homit
  rw [beginAck, hskip, isBroadcast_eq, decide_eq_true hmode, hnext]

/-- The sender goes on with the element that follows the field, its slot passed over. -/
theorem advanceTx_omitting {s : State} (homit : SlotsOmitted s) {f : FieldCode} (helem : s.elem = lastElem f)
    {e : Elem} {d : Byte} (hnext : afterField f s.didx s.frame.len = some (e, d)) (ts : Stamp) :
    advanceTx ts s = beginTxSymbol e ts { s with didx := d } := by
  rw [afterField, ← helem] at hnext
  split at hnext
  · next g d' hslot =>
    have hpass := beginAck_omitting (s := { s with didx := d', elem := .el g .ack }) homit hnext ts
    exact (advanceTx_eq hslot ts).trans (hpass.trans (beginTxSymbol_elem e _ ts { s with didx := d }))
  · next hnoslot =>
    rw [advanceTx_eq hnext ts]
    match e, hnext with
    | .el g .ack, hnext => exact absurd hnext (hnoslot g d)
    | .el g .val, _ => rfl
    | .el g .par, _ => rfl
    | .fin, _ => rfl

/-- A field with a value begins as EncodeWord begins it (44_frame_transmit.md R137). -/
theorem beginTxSymbol_value {s : State} {g : FieldCode} {w : BitVec 12}
    (h : fieldValue s.frame s.didx g = some w) (ts : Stamp) : beginTxSymbol (.el g .val) ts s = txAt g s := by
  cases g
  case start => cases h
  all_goals rfl

section

variable {s : State} {f : FieldCode} {v : BitVec 12} (hfault : s.fault = none) (htiming : s.par.SourceTiming)
  (hvalue : fieldValue s.frame s.didx f = some v) (homit : SlotsOmitted s) {d : Byte}

include hfault htiming hvalue homit

/-- A field that another follows: the next one begins at once. -/
theorem sendsTo_nextField {g : FieldCode} {w : BitVec 12}
    (hnext : afterField f s.didx s.frame.len = some (.el g .val, d)) (hg : fieldValue s.frame d g = some w) :
    SendsTo (wave s.par (sentSymbols f v)) (txAt f s)
      (txAt g { s with didx := d, wdtcnt := 0, time := s.time + 10 * (sentSymbols f v).length }) := by
  have hafter : afterElem (fieldEnd f v s) =
      txAt g { s with didx := d, wdtcnt := 0, time := s.time + 10 * (sentSymbols f v).length } := by
    rw [afterElem, advanceTx_omitting (s := fieldEnd f v s) homit rfl hnext,
      beginTxSymbol_value (s := { fieldEnd f v s with didx := d }) hg, fieldEnd_time htiming hvalue,
      txAt_eq (s := { fieldEnd f v s with didx := d }) hg,
      txAt_eq (s := { s with didx := d, wdtcnt := 0, time := _ }) hg]
    rfl
  rw [← hafter]
  exact sendsTo_field hfault htiming hvalue

/-- The last field of a frame: the pass ends OK in its last tick (44_frame_transmit.md R143). -/
theorem sendsTo_frameEnd (hnext : afterField f s.didx s.frame.len = some (.fin, d)) :
    SendsTo (wave s.par (sentSymbols f v)) (txAt f s)
      { txEnd .ok .none 0 (Config.tsIn (fieldEnd f v s).time) { fieldEnd f v s with elem := .fin, didx := d } with
        time := s.time + 10 * (sentSymbols f v).length } := by
  have hafter := advanceTx_omitting (s := fieldEnd f v s) homit rfl hnext (Config.tsIn (fieldEnd f v s).time)
  rw [← fieldEnd_time htiming hvalue]
  have hfield := sendsTo_field hfault htiming hvalue
  rw [afterElem, hafter] at hfield
  exact hfield

end

/-! ## A whole frame -/

theorem drive_time {exts : List Bool} {s : State} (h : (drive exts s).fault = none) :
    (drive exts s).time = s.time + exts.length := by
  induction exts generalizing s with
  | nil => rfl
  | cons e es ih =>
    cases hs : s.fault with
    | none =>
      rw [drive_cons hs] at h ⊢
      rw [ih h, tick_time, List.length_cons, Nat.add_assoc, Nat.add_comm 1]
    | some r =>
      rw [drive_fault hs, hs] at h
      cases h

/-- What a sender puts on the line takes one tick per level. -/
theorem SendsTo.time_eq {bs : List Bool} {s t : State} (h : SendsTo bs s t) (hfault : t.fault = none) :
    t.time = s.time + bs.length := by
  obtain ⟨_, rfl⟩ := h bs rfl
  exact drive_time hfault

/-- The sender k ticks into the pass, at data byte d: whatever else has changed since s, a field's first tick sets
again. -/
def onward (d : Byte) (k : Nat) (s : State) : State := { s with didx := d, wdtcnt := 0, time := s.time + k }

/-- The pass has ended OK in tick stop (44_frame_transmit.md R143, R145). -/
abbrev EndedOk (s : State) (stop : Nat) (t : State) : Prop :=
  t.fault = none ∧ t.phase = .idle ∧ t.cnt = 0 ∧ t.busOut = false ∧
    t.frame = s.frame ∧ t.txResult = 0x0001 ∧ t.rxResult = s.rxResult ∧ t.respActive = false ∧
    t.registered = (s.respActive || s.registered) ∧
    t.regTs = (if s.respActive then Config.tsIn stop else s.regTs) ∧
    t.txPending = s.txPending ∧ t.time = stop + 1 ∧
    t.events = s.events ++ [(stop, .txDone 0x0001), (stop, .diagDump (dumpOf s.frame))]

/-- START at a sender (42_start_arbitration.md R112). -/
theorem sendsTo_start {s : State} (h : TxAtStart s) :
    SendsTo (wave s.par [.start]) s (txAt .mode (onward s.didx 47 s)) := by
  obtain ⟨hfault, htiming, hphase, helem, hnbits, hcnt, hbus, hhold, hper⟩ := h
  have hhold42 : s.hold.toNat = 42 := by rw [hhold]; rfl
  have hper47 : s.per.toNat = 47 := by rw [hper]; rfl
  have hcnt0 : s.cnt.toNat = 0 := by rw [hcnt]; rfl
  have hin : InSymbol s := by
    refine ⟨hfault, hphase, by omega, by omega, ?_⟩
    rw [hbus, hcnt0, hhold42]
    rfl
  have hwave : wave s.par [.start] = pulse s.hold.toNat s.per.toNat := by
    rw [wave_start htiming, hhold42, hper47]
    rfl
  have hnext : nextElem (symbolEnd s).elem (symbolEnd s).didx (symbolEnd s).frame.len =
      some (.el .mode .val, s.didx) := by
    have hstart : (symbolEnd s).elem = .el .start .val := helem
    rw [hstart]
    rfl
  have htime : (symbolEnd s).time + 1 = s.time + 47 := by
    rw [symbolEnd, hper47, hcnt0]
  have hafter : afterSymbol (symbolEnd s) = txAt .mode (onward s.didx 47 s) := by
    rw [afterSymbol_value (u := symbolEnd s) helem hnbits, afterElem, advanceTx_eq hnext, htime]
    rfl
  rw [hwave, ← hafter]
  exact hin.sendsTo hcnt (by omega)

/-- The data byte that a data field sends. -/
theorem fieldValue_data {fr : FrameBuf} {d : Byte} (h : d.toNat < maxData) :
    fieldValue fr d .data = some (fr.data[d.toNat].setWidth 12) :=
  congrArg (Option.map _) (Vector.getElem?_eq_getElem h)

/-- The data bytes from byte d on begin with byte d. -/
theorem drop_data {fr : FrameBuf} {d : Byte} (h : d.toNat < maxData) :
    fr.data.toList.drop d.toNat = fr.data[d.toNat] :: fr.data.toList.drop (d.toNat + 1) := by
  rw [List.drop_eq_getElem_cons (by simpa using h)]
  rfl

section

variable {s : State} {f : FieldCode} {v : BitVec 12} (hfault : s.fault = none) (htiming : s.par.SourceTiming)
  (homit : SlotsOmitted s) {d d' : Byte} {k k' : Nat}

include hfault htiming homit

/-- The field sent from tick k of the pass on, and the next one's first tick. -/
theorem onward_nextField (hvalue : fieldValue s.frame d f = some v) {g : FieldCode} {w : BitVec 12}
    (hnext : afterField f d s.frame.len = some (.el g .val, d')) (hg : fieldValue s.frame d' g = some w)
    (hk : k' = k + 10 * (fieldWidth f + if hasParity f then 1 else 0)) :
    SendsTo (wave s.par (sentSymbols f v)) (txAt f (onward d k s)) (txAt g (onward d' k' s)) := by
  have hfield := sendsTo_nextField (s := onward d k s) hfault htiming hvalue homit hnext hg
  have htime : (onward d k s).time + 10 * (sentSymbols f v).length = s.time + k' := by
    rw [sentSymbols_length, hk, ← Nat.add_assoc]
    rfl
  rw [htime] at hfield
  exact hfield

/-- The last field sent from tick k of the pass on. -/
theorem onward_frameEnd (hvalue : fieldValue s.frame d f = some v)
    (hnext : afterField f d s.frame.len = some (.fin, d'))
    {stop : Nat} (hstop : stop + 1 = s.time + k + 10 * (fieldWidth f + if hasParity f then 1 else 0)) :
    ∃ t, SendsTo (wave s.par (sentSymbols f v)) (txAt f (onward d k s)) t ∧ EndedOk s stop t := by
  have htime : (fieldEnd f v (onward d k s)).time = stop := by
    have hend := fieldEnd_time (s := onward d k s) htiming hvalue
    have hstart : (onward d k s).time = s.time + k := rfl
    rw [sentSymbols_length] at hend
    omega
  have hfin : (onward d k s).time + 10 * (sentSymbols f v).length = stop + 1 := by
    rw [sentSymbols_length, hstop]
    rfl
  refine ⟨_, sendsTo_frameEnd (s := onward d k s) hfault htiming hvalue homit hnext, ?_⟩
  rw [hfin, htime]
  have hresult : resultWord (txKindNum .ok) .none 0 = 0x0001 := by decide
  refine ⟨hfault, rfl, rfl, rfl, rfl, hresult, rfl, rfl, rfl, rfl, rfl, rfl, ?_⟩
  rw [← hresult, ← htime]
  rfl

/-- The data fields from byte d on, m more after it, and the end of the pass. -/
theorem onward_data {m : Nat} (hlen : s.frame.len.toNat ≤ maxData) (hm : d.toNat + m + 1 = s.frame.len.toNat)
    {stop : Nat} (hstop : stop + 1 = s.time + k + 90 * (m + 1)) :
    ∃ t, SendsTo (wave s.par
        (((s.frame.data.toList.drop d.toNat).take (m + 1)).flatMap fun x => sentSymbols .data (x.setWidth 12)))
      (txAt .data (onward d k s)) t ∧ EndedOk s stop t := by
  induction m generalizing d k with
  | zero =>
    have hidx : d.toNat < maxData := by omega
    have hnext : afterField .data d s.frame.len = some (.fin, d) := if_neg (by omega)
    obtain ⟨t, hsend, hend⟩ := onward_frameEnd hfault htiming homit (fieldValue_data hidx) hnext
      (stop := stop) hstop
    refine ⟨t, ?_, hend⟩
    rwa [drop_data hidx, List.take_succ_cons, List.flatMap_cons, List.take_zero, List.flatMap_nil, List.append_nil]
  | succ m ih =>
    have hidx : d.toNat < maxData := by omega
    have hsucc : (d + 1).toNat = d.toNat + 1 := by bv_omega
    have hnext : afterField .data d s.frame.len = some (.el .data .val, d + 1) := if_pos (by omega)
    have hvalue' := fieldValue_data (fr := s.frame) (d := d + 1) (by omega)
    have hfield := onward_nextField (k := k) hfault htiming homit (fieldValue_data hidx) hnext hvalue' rfl
    obtain ⟨t, hsend, hend⟩ := ih (d := d + 1) (k := k + 90) (by omega) (by omega)
    have hat : (txAt .data (onward (d + 1) (k + 90) s)).fault = none := by
      rw [txAt_eq (s := onward (d + 1) (k + 90) s) hvalue']
      exact hfault
    refine ⟨t, ?_, hend⟩
    rw [drop_data hidx, List.take_succ_cons, List.flatMap_cons, wave_append]
    rw [hsucc] at hsend
    exact hfield.trans hat hsend

/-- The length field, the data fields and the end of the pass. -/
theorem onward_length (hlen : s.frame.len.toNat ≤ maxData) {stop : Nat}
    (hstop : stop + 1 = s.time + k + 90 + 90 * s.frame.len.toNat) :
    ∃ t, SendsTo (wave s.par (sentSymbols .length (s.frame.len.setWidth 12) ++
        (s.frame.data.toList.take s.frame.len.toNat).flatMap fun x => sentSymbols .data (x.setWidth 12)))
      (txAt .length (onward d k s)) t ∧ EndedOk s stop t := by
  cases hn : s.frame.len.toNat with
  | zero =>
    have hzero : s.frame.len = 0 := by bv_omega
    have hnext : afterField .length d s.frame.len = some (.fin, d) := if_pos hzero
    obtain ⟨t, hsend, hend⟩ := onward_frameEnd (f := .length) hfault htiming homit rfl hnext (stop := stop) (by
      rw [hstop, hn]
      rfl)
    refine ⟨t, ?_, hend⟩
    rwa [List.take_zero, List.flatMap_nil, List.append_nil]
  | succ m =>
    have hne : s.frame.len ≠ 0 := by bv_omega
    have hnext : afterField .length d s.frame.len = some (.el .data .val, 0) := if_neg hne
    have hvalue := fieldValue_data (fr := s.frame) (d := 0) (by decide)
    have hfield := onward_nextField (f := .length) (k := k) hfault htiming homit rfl hnext hvalue rfl
    obtain ⟨t, hsend, hend⟩ := onward_data (d := 0) (k := k + 90) (m := m) (stop := stop) hfault htiming homit hlen
      (by rw [hn]; simp) (by rw [hstop, hn]; omega)
    have hat : (txAt .data (onward 0 (k + 90) s)).fault = none := by
      rw [txAt_eq (s := onward 0 (k + 90) s) hvalue]
      exact hfault
    refine ⟨t, ?_, hend⟩
    rw [wave_append]
    exact hfield.trans hat hsend

end

theorem sentSymbols_mode (m : Bool) : sentSymbols .mode ((BitVec.ofBool m).setWidth 12) = [symbolOf m] := by
  cases m <;> rfl

/-- The whole pass, from the start bit on (44_frame_transmit.md R138 to R143). -/
theorem sendsTo_frame {s : State} (h : TxAtStart s) (homit : SlotsOmitted s) (hlen : s.frame.len.toNat ≤ maxData)
    {stop : Nat} (hstop : stop + 1 = s.time + 457 + 90 * s.frame.len.toNat) :
    ∃ t, SendsTo (wave s.par (sentFrame [] s.frame)) s t ∧ EndedOk s stop t := by
  obtain ⟨hfault, htiming, _⟩ := id h
  have hstart := sendsTo_start h
  have hmode := onward_nextField (f := .mode) (g := .master) (d := s.didx) (k := 47)
    hfault htiming homit rfl rfl rfl rfl
  have hmaster := onward_nextField (f := .master) (g := .slave) (d := s.didx) (k := 57)
    hfault htiming homit rfl rfl rfl rfl
  have hslave := onward_nextField (f := .slave) (g := .control) (d := s.didx) (k := 187)
    hfault htiming homit rfl rfl rfl rfl
  have hcontrol := onward_nextField (f := .control) (g := .length) (d := s.didx) (k := 317)
    hfault htiming homit rfl rfl rfl rfl
  obtain ⟨t, hlength, hend⟩ := onward_length (d := s.didx) (k := 367) hfault htiming homit hlen hstop
  have hframe : sentFrame [] s.frame = [.start] ++ (sentSymbols .mode ((BitVec.ofBool s.frame.mode).setWidth 12) ++
      (sentSymbols .master s.frame.master ++ (sentSymbols .slave s.frame.slave ++
        (sentSymbols .control (s.frame.ctrl.setWidth 12) ++ (sentSymbols .length (s.frame.len.setWidth 12) ++
          (s.frame.data.toList.take s.frame.len.toNat).flatMap fun x => sentSymbols .data (x.setWidth 12)))))) := by
    simp only [sentFrame, sentSymbols_mode, List.append_nil, List.append_assoc, List.cons_append, List.nil_append]
  refine ⟨t, ?_, hend⟩
  rw [hframe, wave_append, wave_append, wave_append, wave_append, wave_append]
  exact hstart.trans hfault <| hmode.trans hfault <| hmaster.trans hfault <| hslave.trans hfault <|
    hcontrol.trans hfault hlength

end Sys2Proof.Machine

open Sys2Proof Sys2Proof.Machine

/-- Settles O25: with the slots passed over the fields follow one another (`onward_nextField`) to the end of the last
(`onward_frameEnd`), whatever the line shows. -/
theorem broadcastFrameOmittingSlots : Obligations.BroadcastFrameOmittingSlots := by
  intro s exts n stop hstart hlen hskip hmode hn hexts hstop
  obtain ⟨t, hsend, hend⟩ := sendsTo_frame hstart ⟨hskip, hmode⟩ hlen (stop := stop) (by omega)
  obtain ⟨hfault, hphase, hcnt, hbus, hfr, htx, hrx, hresp, hreg, hregts, hpend, htime, hevents⟩ := hend
  have hlast : stop + 1 = s.time + exts.length := by omega
  have hlength : exts.length = (wave s.par (sentFrame [] s.frame)).length := by
    have htaken := hsend.time_eq hfault
    omega
  obtain ⟨htrace, hdrive⟩ := hsend exts hlength
  exact ⟨htrace, t, hdrive, hfault, hphase, hcnt, hbus, hfr, htx, hrx, hresp, hreg, hregts, hpend,
    htime.trans hlast, hevents⟩

end

section
/-! A sender whose slots are acknowledged, or whose frame is Broadcast with its slots sent: the fields of a FRAME row
follow one another to the end of the pass (44_frame_transmit.md R138 to R143, 43_acknowledge.md R127). -/

namespace Sys2Proof.Machine

/-! ## A row at the first tick of a field -/

/-- Where the sender is n ticks on, taking up field f's value at data byte d: EncodeWord reads neither WDTCNT nor the
tick number. -/
theorem txAt_onward {s : State} {f : FieldCode} {d : Byte} {v : BitVec 12} (h : fieldValue s.frame d f = some v)
    (n : Nat) : txAt f (onward d n s) = { txAt f { s with didx := d } with wdtcnt := 0, time := s.time + n } := by
  rw [txAt_eq (s := onward d n s) h, txAt_eq (s := { s with didx := d }) h]
  rfl

/-- A row passing at a sender at the first tick of a field. -/
theorem live_txAt {s : State} {f : FieldCode} {v : BitVec 12} (hfault : s.fault = none)
    (hvalue : fieldValue s.frame s.didx f = some v) (ss : List Symbol) :
    live (txAt f s) (driveSymbols ss) = .next (drive (wave s.par ss) (txAt f s)) := by
  have hstart : (txAt f s).fault = none ∧ (txAt f s).par = s.par := by
    rw [txAt_eq hvalue]
    exact ⟨hfault, rfl⟩
  obtain ⟨hnofault, hpar⟩ := hstart
  rw [live_none hnofault, driveSymbols, hpar]

theorem parFieldSymbols_eq {w : Nat} (x : ParField w) :
    parFieldSymbols x = (msbFirst x.v w ++ [x.p]).map symbolOf := by
  simp [parFieldSymbols, valueSymbols]

/-! ## A field with no slot -/

/-- A field with no slot leads straight to the next, whatever as many bits pass on the line (41_bitcodec.md R99). -/
theorem drive_slotlessField {s : State} {f g : FieldCode} {v w : BitVec 12} (hfault : s.fault = none)
    (htiming : s.par.SourceTiming) (hvalue : fieldValue s.frame s.didx f = some v)
    (hnext : nextElem (lastElem f) s.didx s.frame.len = some (.el g .val, s.didx))
    (hg : fieldValue s.frame s.didx g = some w) {bs : List Bool} (hlen : bs.length = (sentSymbols f v).length) :
    drive (wave s.par (bs.map symbolOf)) (txAt f s) = txAt g (onward s.didx (10 * bs.length) s) := by
  have hticks : (wave s.par (bs.map symbolOf)).length = (wave s.par (sentSymbols f v)).length := by
    rw [wave_map_symbolOf_length htiming, sentSymbols_wave_length htiming, hlen]
  obtain ⟨_, hdrive⟩ := sendsTo_field hfault htiming hvalue _ hticks
  have hadvance : ∀ ts, advanceTx ts (fieldEnd f v s) = txAt g (fieldEnd f v s) := fun ts =>
    (advanceTx_eq (s := fieldEnd f v s) hnext ts).trans (beginTxSymbol_value (s := fieldEnd f v s) hg ts)
  rw [hdrive, afterElem, hadvance, fieldEnd_time htiming hvalue, hlen, txAt_eq (s := fieldEnd f v s) hg,
    txAt_eq (s := onward s.didx _ s) hg]
  rfl

/-! ## A slot that is acknowledged -/

/-- The sender puts its slots on the line (43_acknowledge.md R123, R128). -/
abbrev SlotsSent (s : State) : Prop := s.par.bcastAckSlot = .emit ∨ s.frame.mode ≠ s.par.modeBcastBit

/-- The sender goes on after a slot that reads as k: another node has stretched it, or the frame is Broadcast
(43_acknowledge.md R125, R127). -/
abbrev SlotPasses (k : Bool) (s : State) : Prop := k = false ∨ s.frame.mode = s.par.modeBcastBit

/-- What a slot that is acknowledged leaves in MEAS and ACKED (43_acknowledge.md R124). -/
def acknowledged (s : State) : State := { s with meas := false, acked := true }

/-- A slot that passes leads to the next element after its tick 9, the same state whether it was stretched or not. -/
theorem drive_slotPasses {s : State} {f : FieldCode} {k : Bool} (hfault : s.fault = none)
    (htiming : s.par.SourceTiming) (helem : s.elem = .el f .ack) (hpass : SlotPasses k s) :
    drive (wave s.par [symbolOf k]) (openSlot s) =
      { advanceTx (Config.tsIn (s.time + 9)) (slotMeasured 9 9 s) with time := s.time + 10 } := by
  cases k with
  | false =>
    have hend : ∀ ts, slotEnd f 9 ts (slotMeasured 9 9 s) = advanceTx ts (slotMeasured 9 9 s) :=
      fun ts => if_pos (.inl (by decide))
    have hdrive := drive_openSlot (w := 9) htiming helem hfault (by decide)
    rw [← hend]
    exact (congrArg (drive · (openSlot s)) (wave_zero htiming)).trans hdrive
  | true =>
    have hmode : s.frame.mode = s.par.modeBcastBit := hpass.resolve_left (by decide)
    have hmeasured : slotMeasured 5 9 s = slotMeasured 9 9 s := by simp [slotMeasured, hmode]
    have hend : ∀ ts, slotEnd f 5 ts (slotMeasured 9 9 s) = advanceTx ts (slotMeasured 9 9 s) :=
      fun ts => if_pos (.inr hmode)
    have hdrive := drive_openSlot (w := 5) htiming helem hfault (by decide)
    rw [← hend, ← hmeasured]
    exact (congrArg (drive · (openSlot s)) (wave_one htiming)).trans hdrive

section

variable {s : State} {f : FieldCode} {v : BitVec 12} (hfault : s.fault = none) (htiming : s.par.SourceTiming)
  (hvalue : fieldValue s.frame s.didx f = some v) (hparity : hasParity f = true)
  (hslot : nextElem (.el f .par) s.didx s.frame.len = some (.el f .ack, s.didx)) (hsent : SlotsSent s)
  {x : AckField (fieldWidth f)} (hpass : SlotPasses x.k s) {d : Byte}

include hfault htiming hvalue hparity hslot hsent hpass

theorem drive_ackField_passes :
    drive (wave s.par (ackFieldSymbols x)) (txAt f s) =
      { advanceTx (Config.tsIn ((slotStart f v s).time + 9)) (slotMeasured 9 9 (slotStart f v s)) with
        time := (slotStart f v s).time + 10 } :=
  (drive_ackField hfault htiming hvalue hparity hslot hsent x).trans
    (drive_slotPasses (s := slotStart f v s) hfault htiming rfl hpass)

/-- A field row whose slot passes leads to the next field's first tick (44_frame_transmit.md R139 to R142). -/
theorem drive_ackField_next {g : FieldCode} {w : BitVec 12}
    (hnext : nextElem (.el f .ack) s.didx s.frame.len = some (.el g .val, d)) (hg : fieldValue s.frame d g = some w) :
    drive (wave s.par (ackFieldSymbols x)) (txAt f s) =
      txAt g (onward d (10 * (fieldWidth f + 2)) (acknowledged s)) := by
  have hadvance : ∀ ts, advanceTx ts (slotMeasured 9 9 (slotStart f v s)) =
      txAt g { slotMeasured 9 9 (slotStart f v s) with didx := d } := fun ts =>
    (advanceTx_eq (s := slotMeasured 9 9 (slotStart f v s)) hnext ts).trans
      (beginTxSymbol_value (s := { slotMeasured 9 9 (slotStart f v s) with didx := d }) hg ts)
  have htime : (slotStart f v s).time + 10 = s.time + 10 * (fieldWidth f + 2) := by
    change s.time + 10 * (fieldWidth f + 1) + 10 = _
    omega
  rw [drive_ackField_passes hfault htiming hvalue hparity hslot hsent hpass, hadvance, htime,
    txAt_eq (s := { slotMeasured 9 9 (slotStart f v s) with didx := d }) hg,
    txAt_eq (s := onward d _ (acknowledged s)) hg]
  rfl

/-- The last field row of a frame ends the pass OK in its slot's tick 9 (44_frame_transmit.md R143). -/
theorem drive_ackField_end (hnext : nextElem (.el f .ack) s.didx s.frame.len = some (.fin, d)) {stop : Nat}
    (hstop : stop + 1 = s.time + 10 * (fieldWidth f + 2)) :
    EndedOk s stop (drive (wave s.par (ackFieldSymbols x)) (txAt f s)) := by
  have hadvance : ∀ ts, advanceTx ts (slotMeasured 9 9 (slotStart f v s)) =
      txEnd .ok .none 0 ts { slotMeasured 9 9 (slotStart f v s) with elem := .fin, didx := d } :=
    advanceTx_eq (s := slotMeasured 9 9 (slotStart f v s)) hnext
  have htime : s.time + 10 * (fieldWidth f + 1) + 9 = stop := by omega
  have hresult : resultWord (txKindNum .ok) .none 0 = 0x0001 := by decide
  rw [drive_ackField_passes hfault htiming hvalue hparity hslot hsent hpass, hadvance, ← htime]
  refine ⟨hfault, rfl, rfl, rfl, rfl, hresult, rfl, rfl, rfl, rfl, rfl, rfl, ?_⟩
  rw [← hresult]
  rfl

/-- What such a row answers: the next field's first tick, MEAS and ACKED as the slot has left them. -/
theorem live_ackField_next {g : FieldCode} {w : BitVec 12}
    (hnext : nextElem (.el f .ack) s.didx s.frame.len = some (.el g .val, d)) (hg : fieldValue s.frame d g = some w) :
    live (txAt f s) (driveSymbols (ackFieldSymbols x)) = .next { txAt g { s with didx := d } with
      meas := false
      acked := true
      wdtcnt := 0
      time := s.time + 10 * (fieldWidth f + 2) } := by
  rw [live_txAt hfault hvalue, drive_ackField_next hfault htiming hvalue hparity hslot hsent hpass hnext hg,
    txAt_onward (s := acknowledged s) hg, txAt_eq (s := { acknowledged s with didx := d }) hg,
    txAt_eq (s := { s with didx := d }) hg]
  rfl

end

/-! ## A whole frame -/

/-- The data fields from byte DIDX on, and the end of the pass (44_frame_transmit.md R142, R143). -/
theorem endedOk_dataFields {s : State} {x : AckField 8} {xs : List (AckField 8)} (hfault : s.fault = none)
    (htiming : s.par.SourceTiming) (hsent : SlotsSent s) (hlen : s.frame.len.toNat ≤ maxData)
    (hcount : s.didx.toNat + (xs.length + 1) = s.frame.len.toNat) (hpass : ∀ y ∈ x :: xs, SlotPasses y.k s)
    {stop : Nat} (hstop : stop + 1 = s.time + 100 * (xs.length + 1)) :
    EndedOk s stop (drive (wave s.par (dataFieldSymbols (x :: xs))) (txAt .data s)) := by
  have hidx : s.didx.toNat < maxData := by omega
  have hfirst : SlotPasses x.k s := hpass x List.mem_cons_self
  induction xs generalizing s x with
  | nil =>
    rw [List.length_nil] at hcount hstop
    have hnext : nextElem (.el .data .ack) s.didx s.frame.len = some (.fin, s.didx) := if_neg (by omega)
    have hend := drive_ackField_end (f := .data) hfault htiming (fieldValue_data hidx) rfl rfl hsent hfirst hnext
      (stop := stop) hstop
    rwa [dataFieldSymbols, List.flatMap_cons, List.flatMap_nil, List.append_nil]
  | cons y ys ih =>
    rw [List.length_cons] at hcount hstop
    have hsucc : (s.didx + 1).toNat = s.didx.toNat + 1 := by bv_omega
    have hnext : nextElem (.el .data .ack) s.didx s.frame.len = some (.el .data .val, s.didx + 1) :=
      if_pos (by omega)
    have hfield := drive_ackField_next (f := .data) hfault htiming (fieldValue_data hidx) rfl rfl hsent hfirst hnext
      (fieldValue_data (d := s.didx + 1) (by omega))
    have hleft : (s.didx + 1).toNat + (ys.length + 1) = s.frame.len.toNat := by omega
    have htime : stop + 1 = s.time + 100 + 100 * (ys.length + 1) := by omega
    have hidx' : (s.didx + 1).toNat < maxData := by omega
    have hpass' : ∀ z ∈ y :: ys, SlotPasses z.k s := fun z hz => hpass z (List.mem_cons_of_mem x hz)
    have hrest : EndedOk (onward (s.didx + 1) 100 (acknowledged s)) stop _ :=
      ih (s := onward (s.didx + 1) 100 (acknowledged s)) hfault htiming hsent hlen hleft hpass' htime hidx'
        (hpass' y List.mem_cons_self)
    have hsplit : dataFieldSymbols (x :: y :: ys) = ackFieldSymbols x ++ dataFieldSymbols (y :: ys) := rfl
    rw [hsplit, wave_append, drive_append]
    exact hfield ▸ hrest

/-- The length field, the data fields and the end of the pass (44_frame_transmit.md R141 to R143). -/
theorem endedOk_lengthAndData {s : State} {l : AckField 8} {ds : List (AckField 8)} (hfault : s.fault = none)
    (htiming : s.par.SourceTiming) (hsent : SlotsSent s) (hlen : s.frame.len.toNat ≤ maxData)
    (hcount : ds.length = s.frame.len.toNat) (hlpass : SlotPasses l.k s) (hpass : ∀ y ∈ ds, SlotPasses y.k s)
    {stop : Nat} (hstop : stop + 1 = s.time + 100 + 100 * ds.length) :
    EndedOk s stop (drive (wave s.par (ackFieldSymbols l ++ dataFieldSymbols ds)) (txAt .length s)) := by
  rw [wave_append, drive_append]
  cases ds with
  | nil =>
    have hzero : s.frame.len = 0 := by
      rw [List.length_nil] at hcount
      bv_omega
    have hnext : nextElem (.el .length .ack) s.didx s.frame.len = some (.fin, s.didx) := if_pos hzero
    exact drive_ackField_end (f := .length) hfault htiming rfl rfl rfl hsent hlpass hnext hstop
  | cons x xs =>
    rw [List.length_cons] at hcount hstop
    have hne : s.frame.len ≠ 0 := by bv_omega
    have hnext : nextElem (.el .length .ack) s.didx s.frame.len = some (.el .data .val, 0) := if_neg hne
    have hfield := drive_ackField_next (f := .length) hfault htiming rfl rfl rfl hsent hlpass hnext
      (fieldValue_data (d := 0) (by decide))
    have hdata : EndedOk (onward 0 100 (acknowledged s)) stop _ :=
      endedOk_dataFields (s := onward 0 100 (acknowledged s)) (x := x) (xs := xs) hfault htiming hsent hlen
        ((Nat.zero_add _).trans hcount) hpass hstop
    exact hfield ▸ hdata

/-- A FRAME row at a sender whose slots all pass: START, and then one field after another to the end of the pass
(44_frame_transmit.md R138 to R143). -/
theorem endedOk_frame {s : State} (m : Bool) (a : ParField 12) {b : AckField 12} {c : AckField 4} {l : AckField 8}
    {ds : List (AckField 8)} (hstart : TxAtStart s) (hsent : SlotsSent s) (hlen : s.frame.len.toNat ≤ maxData)
    (hcount : ds.length = s.frame.len.toNat) (hb : SlotPasses b.k s) (hc : SlotPasses c.k s) (hl : SlotPasses l.k s)
    (hds : ∀ y ∈ ds, SlotPasses y.k s) {stop : Nat} (hstop : stop + 1 = s.time + 487 + 100 * ds.length) :
    EndedOk s stop (drive (wave s.par (frameSymbols m a b c l ds)) s) := by
  obtain ⟨hfault, htiming, _⟩ := id hstart
  obtain ⟨_, hstartBit⟩ := sendsTo_start hstart _ rfl
  have hmode : drive (wave s.par [symbolOf m]) (txAt .mode (onward s.didx 47 s)) =
      txAt .master (onward s.didx 57 s) :=
    drive_slotlessField (s := onward s.didx 47 s) hfault htiming rfl rfl rfl (bs := [m]) rfl
  have hmaster : drive (wave s.par (parFieldSymbols a)) (txAt .master (onward s.didx 57 s)) =
      txAt .slave (onward s.didx 187 s) :=
    parFieldSymbols_eq a ▸ drive_slotlessField (s := onward s.didx 57 s) hfault htiming rfl rfl rfl rfl
  have hslave : drive (wave s.par (ackFieldSymbols b)) (txAt .slave (onward s.didx 187 s)) =
      txAt .control (onward s.didx 327 (acknowledged s)) :=
    drive_ackField_next (s := onward s.didx 187 s) (f := .slave) hfault htiming rfl rfl rfl hsent hb rfl rfl
  have hcontrol : drive (wave s.par (ackFieldSymbols c)) (txAt .control (onward s.didx 327 (acknowledged s))) =
      txAt .length (onward s.didx 387 (acknowledged s)) :=
    drive_ackField_next (s := onward s.didx 327 (acknowledged s)) (f := .control) hfault htiming rfl rfl rfl hsent hc
      rfl rfl
  have hrest : EndedOk (onward s.didx 387 (acknowledged s)) stop _ :=
    endedOk_lengthAndData (s := onward s.didx 387 (acknowledged s)) hfault htiming hsent hlen hcount hl hds hstop
  have hsplit : frameSymbols m a b c l ds = [.start] ++ ([symbolOf m] ++ (parFieldSymbols a ++ (ackFieldSymbols b ++
      (ackFieldSymbols c ++ (ackFieldSymbols l ++ dataFieldSymbols ds))))) := rfl
  rw [hsplit, wave_append, drive_append, hstartBit, wave_append, drive_append, hmode, wave_append, drive_append,
    hmaster, wave_append, drive_append, hslave, wave_append, drive_append, hcontrol]
  exact hrest

end Sys2Proof.Machine

open Sys2Proof Sys2Proof.Machine

/-- Settles O23: a slot passes where it is acknowledged or the frame is Broadcast, and with every slot passed the row
runs to the end of the pass (`endedOk_frame`). -/
theorem frameSentAcknowledged : Obligations.FrameSentAcknowledged := by
  intro s m a b c l ds hstart hlen hcount hpasses hsent
  obtain ⟨hfault, _⟩ := id hstart
  have hall : SlotPasses b.k s ∧ SlotPasses c.k s ∧ SlotPasses l.k s ∧ ∀ y ∈ ds, SlotPasses y.k s := by
    obtain ⟨hb, hc, hl, hds⟩ | hmode := hpasses
    · exact ⟨.inl hb, .inl hc, .inl hl, fun y hy => .inl (hds y hy)⟩
    · exact ⟨.inr hmode, .inr hmode, .inr hmode, fun _ _ => .inr hmode⟩
  obtain ⟨hb, hc, hl, hds⟩ := hall
  have hstop : s.time + 486 + 100 * ds.length + 1 = s.time + 487 + 100 * ds.length := by omega
  have hend := endedOk_frame m a hstart hsent hlen hcount hb hc hl hds hstop
  rw [EndedOk, hstop] at hend
  exact ⟨_, live_none hfault _, hend⟩

/-- Settles O26: one field after another, what the slot leaves and where EncodeWord begins (`live_ackField_next`). -/
theorem fieldRowAcknowledgedAtSender : Obligations.FieldRowAcknowledgedAtSender := by
  rintro s f g row d k hfault htiming hsent hpass
    (⟨rfl, rfl, rfl, x, rfl, rfl⟩ | ⟨rfl, rfl, rfl, x, rfl, rfl⟩ | ⟨rfl, rfl, rfl, hne, x, rfl, rfl⟩ |
      ⟨rfl, rfl, rfl, hmore, hidx, x, rfl, rfl⟩)
  · exact ⟨_, live_ackField_next (f := .slave) hfault htiming rfl rfl rfl hsent hpass rfl rfl, rfl⟩
  · exact ⟨_, live_ackField_next (f := .control) hfault htiming rfl rfl rfl hsent hpass rfl rfl, rfl⟩
  · have hfirst := fieldValue_data (fr := s.frame) (d := 0) (by decide)
    exact ⟨_, live_ackField_next (f := .length) hfault htiming rfl rfl rfl hsent hpass (if_neg hne) hfirst, rfl⟩
  · have hsucc : (s.didx + 1).toNat = s.didx.toNat + 1 := by bv_omega
    have hvalue := fieldValue_data (fr := s.frame) (d := s.didx) (by omega)
    have hbyte := fieldValue_data (fr := s.frame) (d := s.didx + 1) (by omega)
    exact ⟨_, live_ackField_next (f := .data) hfault htiming hvalue rfl rfl hsent hpass (if_pos hmore) hbyte, rfl⟩

/-- Settles O28: neither field has a slot, so the next begins with the tick after its last symbol
(`drive_slotlessField`). -/
theorem slotlessFieldRowAtSender : Obligations.SlotlessFieldRowAtSender := by
  intro s hfault htiming
  refine ⟨fun m => ⟨_, live_txAt hfault rfl _, ?_⟩, fun x => ⟨_, live_txAt hfault rfl _, ?_⟩⟩
  · have hmode := drive_slotlessField (f := .mode) (g := .master) hfault htiming rfl rfl rfl (bs := [m]) rfl
    exact hmode.trans (txAt_onward rfl _)
  · have hmaster := drive_slotlessField (f := .master) (g := .slave) (bs := msbFirst x.v 12 ++ [x.p]) hfault htiming
      rfl rfl rfl rfl
    rw [parFieldSymbols_eq]
    exact hmaster.trans (txAt_onward rfl _)

end

section
/-! A pending transmit on an idle line: TXB is copied in the IDLE step, and ten low samples in ARB start the start bit
(44_frame_transmit.md R135, R136). -/

namespace Sys2Proof.Machine

/-- What the IDLE step and arbitration on an idle line leave of a pending transmit: the first tick of the start bit. -/
def startBitOf (s : State) : State :=
  encodeStart { watchdog s with
    txPending := false
    frame := s.txb
    txResult := 0
    didx := 0
    phase := .arb
    cnt := 0
    wdtcnt := 0
    time := s.time + 11 }

/-- The IDLE step takes a pending transmit whose length is legal to ARB (44_frame_transmit.md R135). -/
theorem tick_idle_startHostTx {s : State} (hphase : s.phase = .idle) (hpending : s.txPending = true)
    (hlen : s.txb.len.toNat ≤ maxData) (ext : Bool) (ts : Stamp) :
    tick ext ts s = { watchdog s with
      txPending := false
      frame := s.txb
      txResult := 0
      didx := 0
      phase := .arb
      cnt := 0
      time := s.time + 1 } := by
  obtain ⟨hover, _⟩ | ⟨_, heq⟩ := startHostTx_cases { watchdog s with txPending := false }
  · exact absurd hlen (Nat.not_le_of_lt hover)
  · rw [tick_idle_pending hphase hpending, heq]
    rfl

theorem drive_pending {s : State} (hfault : s.fault = none) (htiming : s.par.SourceTiming) (hphase : s.phase = .idle)
    (hbus : s.busOut = false) (hpending : s.txPending = true) (hlen : s.txb.len.toNat ≤ maxData) :
    drive (List.replicate 11 false) s = startBitOf s := by
  have hidle := tick_idle_startHostTx hphase hpending hlen false (Config.tsIn s.time)
  have harb : Arbitrating (tick false (Config.tsIn s.time) s) := by
    rw [hidle]
    exact ⟨hfault, htiming, rfl, hbus⟩
  have hcnt : (tick false (Config.tsIn s.time) s).cnt.toNat + (9 + 1) = 10 := by
    rw [hidle]
    rfl
  rw [List.replicate_succ, drive_cons hfault, harb.drive_free hcnt, hidle]
  rfl

theorem txAtStart_startBitOf {s : State} (hfault : s.fault = none) (htiming : s.par.SourceTiming) :
    TxAtStart (startBitOf s) := by
  obtain ⟨_, _, _, _, hhigh, hstart, _⟩ := id htiming
  have hhold : (startBitOf s).hold = 42 := congrArg (BitVec.ofNat 6) hhigh
  have hper : (startBitOf s).per = 47 := congrArg (BitVec.ofNat 6) hstart
  exact ⟨hfault, htiming, rfl, rfl, rfl, rfl, rfl, hhold, hper⟩

end Sys2Proof.Machine

open Sys2Proof Sys2Proof.Machine

/-- Settles O31: one IDLE step (`tick_idle_startHostTx`) and ten low samples in ARB (`Arbitrating.drive_free`). -/
theorem pendingFrameStartsElevenTicksLater : Obligations.PendingFrameStartsElevenTicksLater := by
  intro s hfault htiming hphase hbus hpending hlen
  exact ⟨_, drive_pending hfault htiming hphase hbus hpending hlen, txAtStart_startBitOf hfault htiming,
    rfl, rfl, rfl, rfl, rfl, rfl, passEvents_watchdog s⟩

end

section
/-! How a transmit pass ends: TxEnd alone takes a sender to IDLE, and what it does to REGISTERED, REG_TS and RESP_ACTIVE
does not depend on the result (44_frame_transmit.md R145). One lemma per operation of the pass, in the order of
Sys2Proof/Machine/Transmit.lean. -/

namespace Sys2Proof.Machine

/-- The responder's registers (10_state.md R34 to R36). -/
structure Registration where
  respActive : Bool
  registered : Bool
  regTs : Stamp

/-- The responder's registers in a state. -/
def registration (s : State) : Registration where
  respActive := s.respActive
  registered := s.registered
  regTs := s.regTs

/-- The same as TxEnd leaves them, whatever the pass's result (44_frame_transmit.md R145). -/
def registrationAtEnd (ts : Stamp) (s : State) : Registration where
  respActive := false
  registered := s.respActive || s.registered
  regTs := if s.respActive then ts else s.regTs

/-- From s to t a transmit pass has gone on with the responder's registers as they were, or TxEnd has ended it. -/
def GoesOnOrEnds (ts : Stamp) (s t : State) : Prop :=
  ((t.phase = .idle → s.phase = .idle) ∧ registration t = registration s) ∨
    (t.phase = .idle ∧ registration t = registrationAtEnd ts s)

variable (s : State) (ts : Stamp)

theorem txEnd_goesOnOrEnds (k : TxKind) (f : FieldCode) (i : Byte) : GoesOnOrEnds ts s (txEnd k f i ts s) :=
  .inr ⟨rfl, rfl⟩

theorem raise_goesOnOrEnds (r : Fault) : GoesOnOrEnds ts s (raise r s) := .inl ⟨id, rfl⟩

theorem encodeWord_goesOnOrEnds (f : FieldCode) : GoesOnOrEnds ts s (encodeWord f s) := by
  unfold encodeWord
  split
  · exact .inl ⟨nofun, rfl⟩
  · exact raise_goesOnOrEnds s ts _

theorem beginTxSymbol_goesOnOrEnds (e : Elem) : GoesOnOrEnds ts s (beginTxSymbol e ts s) := by
  unfold beginTxSymbol
  split
  · exact .inl ⟨nofun, rfl⟩
  · exact encodeWord_goesOnOrEnds { s with elem := _ } ts _
  · exact .inl ⟨nofun, rfl⟩
  · exact raise_goesOnOrEnds { s with elem := _ } ts _
  · exact txEnd_goesOnOrEnds { s with elem := _ } ts _ _ _

theorem openSlot_goesOnOrEnds : GoesOnOrEnds ts s (openSlot s) := .inl ⟨nofun, rfl⟩

theorem beginAck_goesOnOrEnds : GoesOnOrEnds ts s (beginAck ts s) := by
  obtain h | h | ⟨_, d, _, h⟩ := beginAck_cases ts s <;> rw [h]
  · exact openSlot_goesOnOrEnds s ts
  · exact raise_goesOnOrEnds s ts _
  · exact beginTxSymbol_goesOnOrEnds { s with didx := d } ts _

theorem beginTxElem_goesOnOrEnds (e : Elem) : GoesOnOrEnds ts s (beginTxElem e ts s) := by
  unfold beginTxElem
  split
  · exact beginAck_goesOnOrEnds { s with elem := _ } ts
  all_goals exact beginTxSymbol_goesOnOrEnds s ts _

theorem advanceTx_goesOnOrEnds : GoesOnOrEnds ts s (advanceTx ts s) := by
  obtain ⟨_, h⟩ | ⟨e, d, _, h⟩ := advanceTx_cases ts s <;> rw [h]
  · exact raise_goesOnOrEnds s ts _
  · exact beginTxElem_goesOnOrEnds { s with didx := d } ts e

theorem armTxBit_goesOnOrEnds : GoesOnOrEnds ts s (armTxBit ts s) := by
  unfold armTxBit txElemDone
  split
  · exact .inl ⟨id, rfl⟩
  · split
    · exact .inl ⟨nofun, rfl⟩
    · exact advanceTx_goesOnOrEnds s ts

theorem slotTick_goesOnOrEnds (f : FieldCode) : GoesOnOrEnds ts s (slotTick f ts s) := by
  unfold slotTick
  split
  · split
    · exact advanceTx_goesOnOrEnds s ts
    · exact txEnd_goesOnOrEnds s ts _ _ _
  · exact .inl ⟨id, rfl⟩

theorem armTxAck_goesOnOrEnds (l : Bool) : GoesOnOrEnds ts s (armTxAck l ts s) := by
  unfold armTxAck
  split
  · exact raise_goesOnOrEnds s ts _
  · split
    · exact txEnd_goesOnOrEnds s ts _ _ _
    · obtain ⟨m, a, h⟩ := measureSlot_eq (s := s) l
      rw [h]
      exact slotTick_goesOnOrEnds { s with meas := m, acked := a } ts _

variable {s}

/-- A tick of a sender: the watchdog and the tick number are no part of it. -/
theorem tick_goesOnOrEnds (h : s.phase = .txBit ∨ s.phase = .txAck) (ext : Bool) :
    GoesOnOrEnds ts s (tick ext ts s) := by
  obtain h | h := h
  · rw [tick_txBit h]
    exact armTxBit_goesOnOrEnds { s with wdtcnt := 0 } ts
  · rw [tick_txAck h]
    exact armTxAck_goesOnOrEnds { s with wdtcnt := 0 } ts _

/-- Where a sender comes to IDLE, TxEnd has ended its pass (44_frame_transmit.md R145). -/
theorem tick_registration_of_ends (h : s.phase = .txBit ∨ s.phase = .txAck) {ext : Bool}
    (hidle : (tick ext ts s).phase = .idle) : registration (tick ext ts s) = registrationAtEnd ts s := by
  obtain ⟨hon, _⟩ | ⟨_, hend⟩ := tick_goesOnOrEnds ts h ext
  · obtain h | h := h <;> cases h.symm.trans (hon hidle)
  · exact hend

end Sys2Proof.Machine

open Sys2Proof Sys2Proof.Machine

/-- Settles O48: a sender comes to IDLE by TxEnd (`tick_registration_of_ends`), and a transmit pass leaves the
receiver's record alone (`tick_receiveSide`). -/
theorem responderPassEndRegisters : Obligations.ResponderPassEndRegisters := by
  intro s ext ts _ hphase hidle
  have hend := tick_registration_of_ends ts hphase hidle
  have hresp : (tick ext ts s).respActive = false := congrArg Registration.respActive hend
  have hreg : (tick ext ts s).registered = (s.respActive || s.registered) := congrArg Registration.registered hend
  have hregTs : (tick ext ts s).regTs = if s.respActive then ts else s.regTs := congrArg Registration.regTs hend
  obtain ⟨_, hrx, _⟩ := receiveSide_eq_iff.mp (tick_receiveSide (.inr hphase) ext ts)
  exact ⟨hresp, hrx, fun h => by simp [hreg, hregTs, h], fun h => by simp [hreg, hregTs, h]⟩

end

section
/-! What writes REGISTERED and REG_TS (45_frame_receive.md R169): of the receive pass RxFinish and a parity error alone,
of the transmit pass TxEnd alone. One lemma per operation of the receive pass, in the order of
Sys2Proof/Machine/Receive.lean. -/

namespace Sys2Proof.Machine

/-- From s to t REGISTERED and REG_TS are left alone. -/
abbrev RegKept (s t : State) : Prop := t.registered = s.registered ∧ t.regTs = s.regTs

/-- From s to t they are left alone, or the end of a receive pass for this node sets them (45_frame_receive.md R161). -/
def KeptOrSet (ts : Stamp) (s t : State) : Prop :=
  RegKept s t ∨ (s.forme = true ∧ t.elem = .fin ∧ t.registered = true ∧ t.regTs = ts)

/-- From s to t a wrong parity symbol of field f clears REGISTERED (45_frame_receive.md R155 to R158). -/
def Cleared (f : FieldCode) (s t : State) : Prop :=
  clearsRegistered f s = true ∧ t.registered = false ∧ t.regTs = s.regTs

theorem hostOp_regKept (w : HostWord) (s : State) : RegKept s (hostOp w s) := by
  obtain ⟨_, heq⟩ | ⟨_, heq⟩ := hostOp_cases w s <;> rw [heq]
  · obtain heq | ⟨_, heq⟩ | ⟨_, _, heq⟩ | ⟨_, heq⟩ | ⟨_, heq⟩ | ⟨_, heq⟩ | ⟨_, heq⟩ | heq :=
      hostWrite_cases (hostAddr w) (hostData w) s <;> rw [heq] <;> exact ⟨rfl, rfl⟩
  · exact ⟨rfl, rfl⟩

/-! ## The receive pass -/

section

variable (s : State)

theorem conclude_regKept : RegKept s (conclude s) := by
  obtain ⟨_, h⟩ | ⟨_, _, h⟩ | ⟨_, _, h⟩ := conclude_cases s <;> rw [h] <;> exact ⟨rfl, rfl⟩

theorem conclude_elem : (conclude s).elem = s.elem := by
  obtain ⟨_, h⟩ | ⟨_, _, h⟩ | ⟨_, _, h⟩ := conclude_cases s <;> rw [h] <;> rfl

/-- A receive pass that ends in full sets REGISTERED and REG_TS where the frame is for this node. -/
theorem rxFinish_keptOrSet (ts : Stamp) (hfin : s.elem = .fin) : KeptOrSet ts s (rxFinish ts s) := by
  obtain ⟨hreg, hregTs⟩ := conclude_regKept (register ts s)
  cases hforme : s.forme with
  | false => exact .inl ⟨by simp [rxFinish, hreg, hforme], by simp [rxFinish, hregTs, hforme]⟩
  | true =>
    refine .inr ⟨hforme, (conclude_elem _).trans hfin, ?_, ?_⟩
    · simp [rxFinish, hreg, hforme]
    · simp [rxFinish, hregTs, hforme]

theorem enterElem_regKept (e : Elem) (d : Byte) : RegKept s (enterElem e d s) := by
  obtain ⟨_, _, _, h, _⟩ := enterElem_eq e d s
  rw [h]
  exact ⟨rfl, rfl⟩

theorem advanceRx_regKept : RegKept s (advanceRx s).1 := by
  unfold advanceRx
  split
  · exact enterElem_regKept s _ _
  · exact ⟨rfl, rfl⟩

theorem ackDone_keptOrSet (ts : Stamp) :
    RegKept s (ackDone ts s).1 ∨ ((ackDone ts s).2 = false ∧ KeptOrSet ts s (ackDone ts s).1) := by
  obtain ⟨_, h⟩ | ⟨d, _, h⟩ | ⟨_, _, _, _, h⟩ := ackDone_cases ts s <;> rw [h]
  · exact .inl ⟨rfl, rfl⟩
  · exact .inr ⟨rfl, rxFinish_keptOrSet { s with elem := .fin, didx := d } ts rfl⟩
  · exact .inl (enterElem_regKept s _ _)

theorem deliverVal_regKept (f : FieldCode) (b : Bool) : RegKept s (deliverVal f b s).1 := by
  unfold deliverVal
  split
  · split
    · next fr _ => exact advanceRx_regKept { accumulateBit b s with frame := fr }
    · exact ⟨rfl, rfl⟩
  · exact ⟨rfl, rfl⟩

theorem parityError_regKept_or_cleared (f : FieldCode) : RegKept s (parityError f s) ∨ Cleared f s (parityError f s) := by
  cases hclear : clearsRegistered f s with
  | false => exact .inl ⟨by simp [parityError, hclear], rfl⟩
  | true => exact .inr ⟨hclear, by simp [parityError, hclear], rfl⟩

theorem deliverPar_regKept_or_cleared (f : FieldCode) (b : Bool) :
    RegKept s (deliverPar f b s).1 ∨
      ((deliverPar f b s).2 = false ∧ b ≠ s.parity ∧ Cleared f s (deliverPar f b s).1) := by
  obtain ⟨hb, h⟩ | ⟨_, _, _, h⟩ | ⟨_, _, h⟩ := deliverPar_cases f b s <;> rw [h]
  · exact (parityError_regKept_or_cleared s f).imp_right fun hclear => ⟨rfl, hb, hclear⟩
  · exact .inl ⟨rfl, rfl⟩
  · exact .inl (advanceRx_regKept (setForme f s))

theorem countOrTimeout_regKept (f : FieldCode) : RegKept s (countOrTimeout f s) := by
  unfold countOrTimeout
  split <;> exact ⟨rfl, rfl⟩

theorem armStartMeas_regKept (l : Bool) : RegKept s (armStartMeas l s) := by
  unfold armStartMeas
  split
  · exact countOrTimeout_regKept s _
  · split <;> exact ⟨rfl, rfl⟩

theorem armRxWaithigh_regKept (l : Bool) : RegKept s (armRxWaithigh l s) := by
  unfold armRxWaithigh
  split
  · exact ⟨rfl, rfl⟩
  · split
    · split <;> exact ⟨rfl, rfl⟩
    · exact countOrTimeout_regKept s _

theorem afterBit_regKept (b : Bool) (w : Nat) : RegKept s (afterBit b w s) := by
  unfold afterBit
  split <;> exact ⟨rfl, rfl⟩

theorem armRxRemain_regKept : RegKept s (armRxRemain s) := by
  unfold armRxRemain
  split <;> exact ⟨rfl, rfl⟩

variable {s}

/-- What follows a delivered symbol leaves REGISTERED and REG_TS as the delivery left them. -/
theorem ifContinues_regKept {r : State × Bool} {next : State → State} (hnext : ∀ u, RegKept u (next u)) :
    RegKept r.1 (ifContinues r next) := by
  unfold ifContinues
  split
  · exact hnext _
  · exact ⟨rfl, rfl⟩

theorem RegKept.trans {t u : State} (h : RegKept s t) (h' : RegKept t u) : RegKept s u :=
  ⟨h'.1.trans h.1, h'.2.trans h.2⟩

theorem ifContinues_ackDone (ts : Stamp) {next : State → State} (hnext : ∀ u, RegKept u (next u)) :
    KeptOrSet ts s (ifContinues (ackDone ts s) next) := by
  obtain hkept | ⟨hover, hset⟩ := ackDone_keptOrSet s ts
  · exact .inl (hkept.trans (ifContinues_regKept hnext))
  · rw [ifContinues, hover]
    exact hset

theorem ifContinues_deliverPar {f : FieldCode} {b : Bool} {next : State → State} (hnext : ∀ u, RegKept u (next u)) :
    RegKept s (ifContinues (deliverPar f b s) next) ∨
      (b ≠ s.parity ∧ Cleared f s (ifContinues (deliverPar f b s) next)) := by
  obtain hkept | ⟨hover, hclear⟩ := deliverPar_regKept_or_cleared s f b
  · exact .inl (hkept.trans (ifContinues_regKept hnext))
  · rw [ifContinues, hover]
    exact .inr hclear

/-- RX_MEAS: a slot's end may set REGISTERED and REG_TS, a wrong parity symbol may clear REGISTERED. -/
theorem armRxMeas_registers (l : Bool) (ts : Stamp) :
    KeptOrSet ts s (armRxMeas l ts s) ∨
      ∃ f, s.elem = .el f .par ∧ l = false ∧ classify s.par s.cnt.toNat ≠ s.parity ∧
        Cleared f s (armRxMeas l ts s) := by
  have hafter : ∀ u, RegKept u (afterBit (classify s.par s.cnt.toNat) s.cnt.toNat u) :=
    fun u => afterBit_regKept u _ _
  cases helem : s.elem with
  | fin =>
    have hfault : armRxMeas l ts s = raise .noRule s := by simp [armRxMeas, helem]
    exact .inl (.inl (hfault ▸ ⟨rfl, rfl⟩))
  | el f k =>
    cases l with
    | true =>
      have hcount : armRxMeas true ts s = countOrTimeout f s := by simp [armRxMeas, helem]
      exact .inl (.inl (hcount ▸ countOrTimeout_regKept s f))
    | false =>
      have hlow : armRxMeas false ts s = ifContinues (rxDeliver (classify s.par s.cnt.toNat) ts s)
          (afterBit (classify s.par s.cnt.toNat) s.cnt.toNat) := by simp [armRxMeas, helem]
      rw [hlow, rxDeliver, helem]
      cases k with
      | val => exact .inl (.inl ((deliverVal_regKept s f _).trans (ifContinues_regKept hafter)))
      | par =>
        obtain hkept | ⟨hwrong, hclear⟩ := ifContinues_deliverPar hafter
        · exact .inl (.inl hkept)
        · exact .inr ⟨f, rfl, rfl, hwrong, hclear⟩
      | ack => exact .inl (ifContinues_ackDone ts hafter)

theorem armRxAckdrive_keptOrSet (ts : Stamp) : KeptOrSet ts s (armRxAckdrive ts s) := by
  unfold armRxAckdrive
  split
  · exact .inl ⟨rfl, rfl⟩
  · exact ifContinues_ackDone (s := { s with cnt := satInc s.cnt, busOut := false }) ts fun _ => ⟨rfl, rfl⟩

end

/-! ## The other phases -/

section

variable (s : State)

theorem armIdle_regKept (l : Bool) : RegKept s (armIdle l s) := by
  unfold armIdle
  split
  · obtain ⟨_, h⟩ | ⟨_, h⟩ := startHostTx_cases { s with txPending := false } <;> rw [h] <;> exact ⟨rfl, rfl⟩
  · split <;> exact ⟨rfl, rfl⟩

theorem armArb_regKept (l : Bool) : RegKept s (armArb l s) := by
  unfold armArb
  split
  · exact ⟨rfl, rfl⟩
  · split <;> exact ⟨rfl, rfl⟩

/-- A sender's tick keeps REGISTERED and REG_TS, or ends a responder's pass and sets them (44_frame_transmit.md R145). -/
theorem tick_sender_regKept_or_set {s : State} (h : s.phase = .txBit ∨ s.phase = .txAck) (ext : Bool) (ts : Stamp) :
    RegKept s (tick ext ts s) ∨
      (s.respActive = true ∧ (tick ext ts s).phase = .idle ∧ (tick ext ts s).registered = true ∧
        (tick ext ts s).regTs = ts) := by
  obtain ⟨_, hon⟩ | ⟨hidle, hend⟩ := tick_goesOnOrEnds ts h ext
  · exact .inl ⟨congrArg Registration.registered hon, congrArg Registration.regTs hon⟩
  · have hreg : (tick ext ts s).registered = (s.respActive || s.registered) := congrArg Registration.registered hend
    have hregTs : (tick ext ts s).regTs = if s.respActive then ts else s.regTs := congrArg Registration.regTs hend
    cases hresp : s.respActive with
    | false => exact .inl ⟨by simp [hreg, hresp], by simp [hregTs, hresp]⟩
    | true => exact .inr ⟨rfl, hidle, by simp [hreg, hresp], by simp [hregTs, hresp]⟩

/-- The fields and the parameter for which a parity error clears REGISTERED (45_frame_receive.md R155 to R157). -/
theorem clearsRegistered_iff (f : FieldCode) :
    clearsRegistered f s = true ↔
      s.forme = true ∧ (f = .control ∨ f = .length ∨ (f = .data ∧ s.par.clearRegOnDataParity = true)) := by
  simp [clearsRegistered, or_assoc]

end

end Sys2Proof.Machine

open Sys2Proof Sys2Proof.Machine

/-- Settles O49: phase by phase, what its arm does to REGISTERED and REG_TS; the host writes neither
(`hostOp_regKept`). -/
theorem registrationChangesOnlyWhereListed : Obligations.RegistrationChangesOnlyWhereListed := by
  refine ⟨fun s ext ts => ?_, hostOp_regKept⟩
  intro t set clear
  have harm : t = { arm (lineOf ext s) ts (watchdog s) with time := s.time + 1 } := rfl
  have hkept : RegKept (watchdog s) (arm (lineOf ext s) ts (watchdog s)) → RegKept s t := id
  cases hphase : s.phase
  case txBit =>
    obtain hkept | ⟨hresp, hidle, hset⟩ := tick_sender_regKept_or_set (.inl hphase) ext ts
    · exact .inl hkept
    · exact .inr (.inl ⟨.inr ⟨hresp, .inl hphase, hidle⟩, hset⟩)
  case txAck =>
    obtain hkept | ⟨hresp, hidle, hset⟩ := tick_sender_regKept_or_set (.inr hphase) ext ts
    · exact .inl hkept
    · exact .inr (.inl ⟨.inr ⟨hresp, .inr hphase, hidle⟩, hset⟩)
  case rxAckdrive =>
    have hset : KeptOrSet ts s t := by
      rw [harm, arm, watchdog_phase, hphase]
      exact armRxAckdrive_keptOrSet (s := watchdog s) ts
    obtain hkept | ⟨hforme, hfin, hset⟩ := hset
    · exact .inl hkept
    · exact .inr (.inl ⟨.inl ⟨hforme, .inr hphase, hfin⟩, hset⟩)
  case rxMeas =>
    have hcases := armRxMeas_registers (s := watchdog s) (lineOf ext s) ts
    have harm' : arm (lineOf ext s) ts (watchdog s) = armRxMeas (lineOf ext s) ts (watchdog s) := by
      rw [arm, watchdog_phase, hphase]
    rw [← harm'] at hcases
    obtain (hkept | ⟨hforme, hfin, hset⟩) | ⟨f, helem, hline, hwrong, hclears, hreg⟩ := hcases
    · exact .inl hkept
    · exact .inr (.inl ⟨.inl ⟨hforme, .inl hphase, hfin⟩, hset⟩)
    · obtain ⟨hforme, hfield⟩ := (clearsRegistered_iff (watchdog s) f).mp hclears
      obtain ⟨hbus, hext⟩ := Bool.or_eq_false_iff.mp hline
      have hplace : s.elem = .el .control .par ∨ s.elem = .el .length .par ∨
          (s.elem = .el .data .par ∧ s.par.clearRegOnDataParity = true) := by
        obtain rfl | rfl | ⟨rfl, hpar⟩ := hfield
        · exact .inl helem
        · exact .inr (.inl helem)
        · exact .inr (.inr ⟨helem, hpar⟩)
      exact .inr (.inr ⟨⟨hforme, hphase, hplace, hbus, hext, hwrong⟩, hreg⟩)
  all_goals
    refine .inl (hkept ?_)
    rw [arm, watchdog_phase, hphase]
  case idle => exact armIdle_regKept (watchdog s) _
  case startMeas => exact armStartMeas_regKept (watchdog s) _
  case rxWaithigh => exact armRxWaithigh_regKept (watchdog s) _
  case rxRemain => exact armRxRemain_regKept (watchdog s)
  case arb => exact armArb_regKept (watchdog s) _

end

section
/-! A receiver, symbol by symbol: the bits of a value, its parity symbol and its acknowledge slot, each ten ticks long
(45_frame_receive.md R149 to R159, 43_acknowledge.md R129 to R131). -/

namespace Sys2Proof.Machine

/-! ## A receiver between two symbols -/

/-- A receiver with an element to come, the line released: it samples what the other nodes drive. -/
structure InPass (s : State) : Prop where
  fault : s.fault = none
  timing : s.par.SourceTiming
  busOut : s.busOut = false
  elem : ∃ f k, s.elem = .el f k

/-- The same state n ticks on, in another phase and with another count. -/
def timed (ph : Phase) (c : BitVec 16) (n : Nat) (s : State) : State :=
  { s with phase := ph, cnt := c, wdtcnt := 0, time := s.time + n }

/-- The receiver n ticks on, waiting for its element's pulse with `rest` low samples counted. -/
abbrev waiting (rest : BitVec 16) (n : Nat) (s : State) : State := timed .rxWaithigh rest n s

theorem waiting_timed (p : Phase) (c rest : BitVec 16) (m n : Nat) (s : State) :
    waiting rest n (timed p c m s) = waiting rest (m + n) s := by
  simp [timed, Nat.add_assoc]

/-- Entering an element leaves the phase, the count and the clock alone. -/
theorem enterElem_timed (e : Elem) (d : Byte) (p : Phase) (c : BitVec 16) (n : Nat) (s : State) :
    enterElem e d (timed p c n s) = timed p c n (enterElem e d s) := by
  unfold enterElem
  split <;> rfl

theorem InPass.enterElem {s : State} (h : InPass s) (f : FieldCode) (k : Kind) (d : Byte) :
    InPass (enterElem (.el f k) d s) := by
  obtain ⟨_, _, _, heq, _⟩ := enterElem_eq (.el f k) d s
  rw [heq]
  exact ⟨h.fault, h.timing, h.busOut, f, k, rfl⟩

theorem enterElem_time (e : Elem) (d : Byte) (s : State) : (enterElem e d s).time = s.time := by
  obtain ⟨_, _, _, heq, _⟩ := enterElem_eq e d s
  rw [heq]

section

variable {s : State} (h : InPass s)

include h

/-- A low sample between two symbols is counted (41_bitcodec.md R103). -/
theorem InPass.tick_low {m : Nat} (hm : m + 1 < 47) (n : Nat) (ts : Stamp) :
    tick false ts (waiting (sat16 m) n s) = waiting (sat16 (m + 1)) (n + 1) s := by
  obtain ⟨f, k, helem⟩ := h.elem
  have hle : (sat16 (m + 1)).toNat ≤ m + 1 := by
    rw [sat16_toNat]
    exact Nat.min_le_left _ _
  have hwait := timedOut_of_notCutOff h.timing (.inl hm) hle
  have harm : armRxWaithigh false (waiting (sat16 m) n s) = { waiting (sat16 m) n s with cnt := sat16 (m + 1) } := by
    simp [armRxWaithigh, timed, helem, countOrTimeout, satInc_sat16, hwait]
  rw [tick_rxWaithigh (s := waiting (sat16 m) n s) rfl, lineOf_of_released (s := waiting (sat16 m) n s) h.busOut]
  exact congrArg (fun t : State => { t with time := s.time + n + 1 }) harm

theorem InPass.drive_low {m : Nat} (hm : m < 47) (n : Nat) :
    drive (List.replicate m false) (waiting 0 n s) = waiting (sat16 m) (n + m) s := by
  induction m with
  | zero => rfl
  | succ m ih =>
    rw [List.replicate_succ', drive_append, ih (Nat.lt_of_succ_lt hm),
      drive_cons (s := waiting (sat16 m) (n + m) s) h.fault, h.tick_low hm, drive_nil, Nat.add_assoc]

end

/-! ## A symbol that is not an answered slot -/

/-- How many ticks of a bit's symbol are high (30_encoding.md R62, R63). -/
def highTicks (b : Bool) : Nat := if b then 5 else 9

/-- The high ticks are a pulse that decodes as the bit, far from any cut-off (30_encoding.md R66). -/
theorem highTicks_pulse (b : Bool) : ∃ n, highTicks b = n + 1 ∧ decide (n + 1 ≤ 7) = b ∧ n + 1 < 47 := by
  cases b with
  | false => exact ⟨8, rfl, rfl, by decide⟩
  | true => exact ⟨4, rfl, rfl, by decide⟩

theorem wave_symbolOf {p : Params} (h : p.SourceTiming) (b : Bool) :
    wave p [symbolOf b] =
      List.replicate (highTicks b) true ++ [false] ++ List.replicate (9 - highTicks b) false := by
  cases b with
  | false => exact wave_zero h
  | true => exact wave_one h

/-- What follows a delivered bit: the next element's pulse is waited for (41_bitcodec.md R104). -/
def awaitPulse (s : State) : State := { s with phase := .rxWaithigh, cnt := 0 }

section

variable {f : FieldCode} {k : Kind} {s : State} (h : ReceivingSymbol f k s) (hphase : s.phase = .rxWaithigh) (b : Bool)

include h hphase

/-- A symbol's pulse is measured and its bit delivered with the first low sample; then the line is low to its end. -/
theorem ReceivingSymbol.drive_pulse :
    drive (wave s.par [symbolOf b]) s =
      drive (List.replicate (9 - highTicks b) false)
        { ifContinues (rxDeliver b (Config.tsIn (s.time + highTicks b)) (measuring (highTicks b) s)) awaitPulse with
          time := s.time + highTicks b + 1 } := by
  obtain ⟨n, hn, hbit, hlt⟩ := highTicks_pulse b
  have hfall := h.tick_fall (w := n + 1) (by omega) (Config.tsIn (s.time + (n + 1)))
  rw [hbit] at hfall
  rw [wave_symbolOf h.timing, drive_append, drive_append, hn, h.drive_high hphase (.inl hlt) (Nat.le_refl _),
    drive_cons (h.of_measuring (n + 1)).fault, drive_nil]
  exact congrArg (drive _) hfall

/-- A symbol whose bit is delivered while the pass continues leaves the receiver waiting for the next one. -/
theorem ReceivingSymbol.drive_symbol {t : State} (ht : InPass t) (htime : t.time = s.time)
    (hdeliver : ∀ ts, rxDeliver b ts (measuring (highTicks b) s) = (measuring (highTicks b) t, true)) :
    drive (wave s.par [symbolOf b]) s = waiting (restAfter b) 10 t := by
  have hlow := ht.drive_low (m := 9 - highTicks b) (by cases b <;> decide) (highTicks b + 1)
  have hrest : sat16 (9 - highTicks b) = restAfter b := by cases b <;> rfl
  have hticks : highTicks b + 1 + (9 - highTicks b) = 10 := by cases b <;> rfl
  rw [hrest, hticks] at hlow
  rw [h.drive_pulse hphase, hdeliver, ← hlow, ← htime]
  rfl

end

/-! ## Delivery by the kind of the element -/

theorem rxDeliver_of_val {s : State} {f : FieldCode} (h : s.elem = .el f .val) (b : Bool) (ts : Stamp) :
    rxDeliver b ts s = deliverVal f b s := by
  simp [rxDeliver, h]

theorem rxDeliver_of_par {s : State} {f : FieldCode} (h : s.elem = .el f .par) (b : Bool) (ts : Stamp) :
    rxDeliver b ts s = deliverPar f b s := by
  simp [rxDeliver, h]

theorem rxDeliver_of_ack {s : State} {f : FieldCode} (h : s.elem = .el f .ack) (b : Bool) (ts : Stamp) :
    rxDeliver b ts s = ackDone ts s := by
  simp [rxDeliver, h]

theorem advanceRx_eq {s : State} {e : Elem} {d : Byte} (h : nextElem s.elem s.didx s.frame.len = some (e, d)) :
    advanceRx s = (enterElem e d s, true) := by
  simp [advanceRx, h]

/-! ## A value -/

/-- The receiver with n bits of the value v still to come, the others taken most significant first
(41_bitcodec.md R106). -/
def bitsTaken {w : Nat} (v : BitVec w) (n : Nat) (s : State) : State :=
  { s with
    shift := (v >>> n).setWidth 12
    parity := parityOf v ^^ lowParity v n
    nbits := BitVec.ofNat 4 n }

/-- All the bits of field f's value taken and the field stored. -/
def valueStored {w : Nat} (v : BitVec w) (fr : FrameBuf) (s : State) : State := { bitsTaken v 0 s with frame := fr }

section

variable {w : Nat} (v : BitVec w)

theorem accumulateBit_bitsTaken (n : Nat) (s : State) :
    accumulateBit (v.getLsbD n) (bitsTaken v (n + 1) s) = bitsTaken v n s := by
  have hshift : (v >>> (n + 1)).setWidth 12 <<< 1 ||| (BitVec.ofBool (v.getLsbD n)).setWidth 12 =
      (v >>> n).setWidth 12 := by
    apply BitVec.eq_of_getLsbD_eq
    intro i hi
    cases i with
    | zero => simp
    | succ i =>
      have hsum : n + 1 + i = n + (i + 1) := by omega
      simp [hi, hsum]
  have hparity : (parityOf v ^^ lowParity v (n + 1) ^^ v.getLsbD n) = (parityOf v ^^ lowParity v n) := by
    rw [lowParity_succ, Bool.xor_assoc, Bool.xor_right_comm, Bool.xor_self, Bool.false_xor]
  have hnbits : BitVec.ofNat 4 (n + 1) - 1 = BitVec.ofNat 4 n := by
    rw [BitVec.ofNat_add]
    exact BitVec.add_sub_cancel _ _
  simp only [accumulateBit, bitsTaken, hshift, hparity, hnbits]

/-- A receiver at a field's first symbol has taken none of the value's bits. -/
theorem bitsTaken_none {f : FieldCode} {s : State} (h : RxAt f s) (hw : w = fieldWidth f) : bitsTaken v w s = s := by
  obtain ⟨_, _, _, _, _, hnbits, hshift, hparity⟩ := h
  have hzero : (v >>> w).setWidth 12 = s.shift := by
    rw [hshift, BitVec.ushiftRight_eq_zero (Nat.le_refl w)]
    simp
  have hpar : (parityOf v ^^ lowParity v w) = s.parity := by
    rw [hparity]
    exact Bool.xor_self _
  have hn : BitVec.ofNat 4 w = s.nbits := by rw [hnbits, hw]
  rw [bitsTaken, hzero, hpar, hn]

/-- With all its bits taken the value stands in SHIFT and its parity in PAR. -/
theorem bitsTaken_all (s : State) :
    bitsTaken v 0 s = { s with shift := v.setWidth 12, parity := parityOf v, nbits := 0 } := by
  simp [bitsTaken]

variable {v} {f : FieldCode} {s : State} (h : ReceivingSymbol f .val s)

include h

theorem ReceivingSymbol.of_bitsTaken (n : Nat) : ReceivingSymbol f .val (bitsTaken v n s) :=
  ⟨h.fault, h.timing, h.busOut, h.elem, nofun⟩

theorem ReceivingSymbol.of_timed (p : Phase) (c : BitVec 16) (n : Nat) : ReceivingSymbol f .val (timed p c n s) :=
  ⟨h.fault, h.timing, h.busOut, h.elem, nofun⟩

/-- A bit that is not the value's last. -/
theorem rxDeliver_bit {n : Nat} (hpos : 0 < n) (hn : n < 16) (ts : Stamp) :
    rxDeliver (v.getLsbD n) ts (bitsTaken v (n + 1) s) = (bitsTaken v n s, true) := by
  have hmore : (bitsTaken v n s).nbits ≠ 0 := by
    intro hzero
    have hnat : n % 16 = 0 := congrArg BitVec.toNat hzero
    omega
  rw [rxDeliver_of_val (s := bitsTaken v (n + 1) s) h.elem, deliverVal, accumulateBit_bitsTaken, if_neg hmore]

variable {fr : FrameBuf} {e : Elem} {d : Byte} (hstore : storeField s.frame s.didx f (v.setWidth 12) = some fr)
  (hnext : nextElem (.el f .val) s.didx fr.len = some (e, d))

include hstore hnext

/-- The value's last bit: the field is stored and its next element entered. -/
theorem rxDeliver_lastBit (ts : Stamp) :
    rxDeliver (v.getLsbD 0) ts (bitsTaken v 1 s) = (enterElem e d (valueStored v fr s), true) := by
  have hlast : (bitsTaken v 0 s).nbits = 0 := rfl
  have hstore' : storeField (bitsTaken v 1 s).frame (bitsTaken v 1 s).didx f (bitsTaken v 0 s).shift = some fr := by
    rw [bitsTaken_all]
    exact hstore
  have helem : (valueStored v fr s).elem = .el f .val := h.elem
  have hnext' : nextElem (valueStored v fr s).elem (valueStored v fr s).didx fr.len = some (e, d) := by
    rw [helem]
    exact hnext
  rw [rxDeliver_of_val (s := bitsTaken v 1 s) h.elem, deliverVal, accumulateBit_bitsTaken, if_pos hlast, hstore']
  exact advanceRx_eq hnext'

end

section

variable {w : Nat} {v : BitVec w} {f g : FieldCode} {k : Kind} {s : State} {fr : FrameBuf} {d : Byte}

/-- From any of a value's bits on, the bits still to come are taken and the field is stored (45_frame_receive.md R158). -/
theorem ReceivingSymbol.drive_bits {n : Nat} (hn : n < 15) (h : ReceivingSymbol f .val s)
    (hphase : s.phase = .rxWaithigh) (hstore : storeField s.frame s.didx f (v.setWidth 12) = some fr)
    (hnext : nextElem (.el f .val) s.didx fr.len = some (.el g k, d)) :
    drive (wave s.par ((msbFirst v (n + 1)).map symbolOf)) (bitsTaken v (n + 1) s) =
      waiting (restAfter (v.getLsbD 0)) (10 * (n + 1)) (enterElem (.el g k) d (valueStored v fr s)) := by
  induction n generalizing s with
  | zero =>
    have hin : InPass (valueStored v fr s) := ⟨h.fault, h.timing, h.busOut, f, .val, h.elem⟩
    refine (h.of_bitsTaken 1).drive_symbol hphase (v.getLsbD 0) (hin.enterElem g k d) (enterElem_time _ _ _)
      fun ts => ?_
    exact (rxDeliver_lastBit (s := measuring _ s) ⟨h.fault, h.timing, h.busOut, h.elem, nofun⟩ hstore hnext ts).trans
      (congrArg (·, true) (enterElem_timed (.el g k) d .rxMeas _ _ (valueStored v fr s)))
  | succ n ih =>
    have hin : InPass (bitsTaken v (n + 1) s) := ⟨h.fault, h.timing, h.busOut, f, .val, h.elem⟩
    have hbit := (h.of_bitsTaken (v := v) (n + 2)).drive_symbol hphase (v.getLsbD (n + 1)) hin rfl
      fun ts => rxDeliver_bit (s := measuring _ s) ⟨h.fault, h.timing, h.busOut, h.elem, nofun⟩ (Nat.succ_pos n)
        (by omega) ts
    have hrest := ih (s := waiting (restAfter (v.getLsbD (n + 1))) 10 s) (by omega) (h.of_timed _ _ _) rfl hstore hnext
    have hlater : valueStored v fr (waiting (restAfter (v.getLsbD (n + 1))) 10 s) =
        waiting (restAfter (v.getLsbD (n + 1))) 10 (valueStored v fr s) := rfl
    have hticks : 10 + 10 * (n + 1) = 10 * (n + 1 + 1) := by omega
    rw [hlater, enterElem_timed, waiting_timed, hticks] at hrest
    rw [msbFirst, List.map_cons, ← List.singleton_append, wave_append, drive_append]
    exact (congrArg (drive _) hbit).trans hrest

/-- A field's value at a receiver at the field's first symbol (45_frame_receive.md R158). -/
theorem drive_rxValue {v : BitVec (fieldWidth f)} (h : RxAt f s) (hpos : 0 < fieldWidth f)
    (hstore : storeField s.frame s.didx f (v.setWidth 12) = some fr)
    (hnext : nextElem (.el f .val) s.didx fr.len = some (.el g k, d)) :
    drive (wave s.par (valueSymbols v)) s =
      waiting (restAfter (v.getLsbD 0)) (10 * fieldWidth f) (enterElem (.el g k) d (valueStored v fr s)) := by
  obtain ⟨hfault, htiming, hphase, hbus, helem, _⟩ := id h
  obtain ⟨n, hn⟩ := Nat.exists_eq_add_one.mpr hpos
  have hlt : n < 15 := by
    have hle : fieldWidth f ≤ 12 := by cases f <;> decide
    omega
  have hrx : ReceivingSymbol f .val s := ⟨hfault, htiming, hbus, helem, nofun⟩
  have hbits := hrx.drive_bits hlt hphase hstore hnext
  rw [← hn, bitsTaken_none v h rfl] at hbits
  exact hbits

end

/-! ## A parity symbol -/

/-- Field f's value v and its parity symbol accepted: the field is stored, and FORME is set with the slave field
(45_frame_receive.md R153, R158). -/
def fieldTaken (f : FieldCode) {w : Nat} (v : BitVec w) (fr : FrameBuf) (s : State) : State :=
  setForme f { valueStored v fr s with elem := .el f .par }

section

variable {f g : FieldCode} {k : Kind} {s : State} {d : Byte}

/-- A parity symbol that is the value's, a length above 32 apart (45_frame_receive.md R158). -/
theorem ReceivingSymbol.drive_parity (h : ReceivingSymbol f .par s) (hphase : s.phase = .rxWaithigh)
    (hlen : f = .length → s.frame.len.toNat ≤ maxData)
    (hnext : nextElem (.el f .par) s.didx s.frame.len = some (.el g k, d)) :
    drive (wave s.par [symbolOf s.parity]) s =
      waiting (restAfter s.parity) 10 (enterElem (.el g k) d (setForme f s)) := by
  have hin : InPass (setForme f s) := ⟨h.fault, h.timing, h.busOut, f, .par, h.elem⟩
  refine h.drive_symbol hphase s.parity (hin.enterElem g k d) (enterElem_time _ _ _) fun ts => ?_
  have hadvance : advanceRx (setForme f (measuring (highTicks s.parity) s)) =
      (enterElem (.el g k) d (setForme f (measuring (highTicks s.parity) s)), true) := by
    refine advanceRx_eq ?_
    rw [← hnext, ← h.elem]
    rfl
  rw [rxDeliver_of_par (s := measuring _ s) h.elem]
  obtain ⟨hwrong, _⟩ | ⟨_, hf, hover, _⟩ | ⟨_, _, haccept⟩ :=
    deliverPar_cases f s.parity (measuring (highTicks s.parity) s)
  · exact absurd rfl hwrong
  · exact absurd (hlen hf) (Nat.not_le_of_lt hover)
  · rw [haccept, hadvance]
    exact congrArg (·, true) (enterElem_timed (.el g k) d .rxMeas _ _ (setForme f s))

variable {v : BitVec (fieldWidth f)} {fr : FrameBuf}

/-- A field's value and its parity symbol, where they agree (45_frame_receive.md R158). -/
theorem drive_rxParField (h : RxAt f s) (hparity : hasParity f = true)
    (hstore : storeField s.frame s.didx f (v.setWidth 12) = some fr) (hlen : f = .length → fr.len.toNat ≤ maxData)
    (hnext : nextElem (.el f .par) s.didx fr.len = some (.el g k, d)) :
    drive (wave s.par (valueSymbols v ++ [symbolOf (parityOf v)])) s =
      waiting (restAfter (parityOf v)) (10 * (fieldWidth f + 1)) (enterElem (.el g k) d (fieldTaken f v fr s)) := by
  obtain ⟨hfault, htiming, _, hbus, _⟩ := id h
  have hpos : 0 < fieldWidth f := by
    cases f
    case none | start | mode => cases hparity
    all_goals decide
  have hval : nextElem (.el f .val) s.didx fr.len = some (.el f .par, s.didx) := by
    cases f
    case none | start | mode => cases hparity
    all_goals rfl
  have hvalue := drive_rxValue h hpos hstore hval
  have hpar : (valueStored v fr s).parity = parityOf v := Bool.xor_false _
  have hsymbol := ReceivingSymbol.drive_parity (f := f)
    (s := waiting (restAfter (v.getLsbD 0)) (10 * fieldWidth f) (enterElem (.el f .par) s.didx (valueStored v fr s)))
    ⟨hfault, htiming, hbus, rfl, nofun⟩ rfl hlen hnext
  have htaken : setForme f (waiting (restAfter (v.getLsbD 0)) (10 * fieldWidth f)
      (enterElem (.el f .par) s.didx (valueStored v fr s))) =
      waiting (restAfter (v.getLsbD 0)) (10 * fieldWidth f) (fieldTaken f v fr s) := rfl
  rw [htaken, enterElem_timed, waiting_timed] at hsymbol
  rw [wave_append, drive_append, hvalue, ← hpar]
  exact hsymbol

end

/-! ## The acknowledge slot -/

/-- The addressed receiver k ticks into the slot it stretches (43_acknowledge.md R129). -/
def stretching (k : Nat) (s : State) : State := { timed .rxAckdrive (sat16 k) k s with busOut := true }

/-- The slot's tick in which a receiver is done with it: the end of its own stretch, or the pulse's first low sample
(43_acknowledge.md R130, R131). -/
def slotTicks (forme k : Bool) : Nat := if forme then 8 else highTicks k

theorem ackDone_next {s : State} {f : FieldCode} {k : Kind} {d : Byte}
    (h : nextElem s.elem s.didx s.frame.len = some (.el f k, d)) (ts : Stamp) :
    ackDone ts s = (enterElem (.el f k) d s, true) := by
  rw [ackDone, h]

theorem ackDone_fin {s : State} {d : Byte} (h : nextElem s.elem s.didx s.frame.len = some (.fin, d)) (ts : Stamp) :
    ackDone ts s = (rxFinish ts { s with elem := .fin, didx := d }, false) := by
  rw [ackDone, h]

/-- Before T0_HIGH ticks of the slot have passed the line is held (43_acknowledge.md R130). -/
theorem armRxAckdrive_more {s : State} (h : (satInc s.cnt).toNat < s.par.t0High) (ts : Stamp) :
    armRxAckdrive ts s = { s with cnt := satInc s.cnt, busOut := true } := if_pos h

theorem armRxAckdrive_last {s : State} (h : s.par.t0High ≤ (satInc s.cnt).toNat) (ts : Stamp) :
    armRxAckdrive ts s = ifContinues (ackDone ts { s with cnt := satInc s.cnt, busOut := false }) awaitPulse :=
  if_neg (Nat.not_lt.mpr h)

/-- A slot row is high in its first tick and low in its last (30_encoding.md R65). -/
theorem wave_slot {p : Params} (h : p.SourceTiming) (k : Bool) :
    ∃ mid e, mid.length = 7 ∧ wave p [symbolOf k] = true :: (mid ++ [e] ++ [false]) := by
  rw [wave_symbolOf h]
  cases k with
  | false => exact ⟨List.replicate 7 true, true, rfl, rfl⟩
  | true => exact ⟨List.replicate 4 true ++ List.replicate 3 false, false, rfl, rfl⟩

section

variable {s : State} {f : FieldCode} (h : InPass s) (hphase : s.phase = .rxWaithigh) (helem : s.elem = .el f .ack)

include h

/-- Inside the stretch the line is held and the tick counted, whatever the line shows. -/
theorem InPass.drive_stretching {k : Nat} {exts : List Bool} (hlen : k + exts.length < 9) :
    drive exts (stretching k s) = stretching (k + exts.length) s := by
  induction exts generalizing k with
  | nil => rfl
  | cons e es ih =>
    rw [List.length_cons] at hlen
    obtain ⟨_, h0, _⟩ := id h.timing
    have hinc : satInc (stretching k s).cnt = sat16 (k + 1) := satInc_sat16 k
    have hmore : (satInc (stretching k s).cnt).toNat < s.par.t0High := by
      rw [h0, hinc, sat16_toNat]
      exact Nat.lt_of_le_of_lt (Nat.min_le_left _ _) (by omega)
    have htick : tick e (Config.tsIn (stretching k s).time) (stretching k s) = stretching (k + 1) s := by
      rw [tick_rxAckdrive (s := stretching k s) rfl, armRxAckdrive_more (s := { stretching k s with wdtcnt := 0 }) hmore,
        hinc]
      rfl
    rw [drive_cons (s := stretching k s) h.fault, htick, ih (by omega), List.length_cons, Nat.add_assoc,
      Nat.add_comm 1]

/-- The ninth tick of the slot ends the stretch and releases the line (43_acknowledge.md R130). -/
theorem InPass.tick_stretching_last (ext : Bool) (ts : Stamp) :
    tick ext ts (stretching 8 s) =
      { ifContinues (ackDone ts (timed .rxAckdrive (sat16 9) 8 s)) awaitPulse with time := s.time + 9 } := by
  obtain ⟨_, h0, _⟩ := id h.timing
  have hinc : satInc (stretching 8 s).cnt = sat16 9 := satInc_sat16 8
  have hover : s.par.t0High ≤ (satInc (stretching 8 s).cnt).toNat := by
    rw [h0, hinc]
    decide
  have hrelease : { timed .rxAckdrive (sat16 9) 8 s with busOut := false } = timed .rxAckdrive (sat16 9) 8 s := by
    rw [← h.busOut]
    rfl
  rw [tick_rxAckdrive (s := stretching 8 s) rfl, armRxAckdrive_last (s := { stretching 8 s with wdtcnt := 0 }) hover,
    hinc, ← hrelease]
  rfl

include hphase helem

/-- The slot of a frame for this node is stretched to its tick 8 whatever the row's slot bit is. -/
theorem InPass.drive_ownSlot (hforme : s.forme = true) (k : Bool) :
    drive (wave s.par [symbolOf k]) s =
      drive [false] { ifContinues (ackDone (Config.tsIn (s.time + 8)) (timed .rxAckdrive (sat16 9) 8 s)) awaitPulse with
        time := s.time + 9 } := by
  obtain ⟨mid, e, hmid, hwave⟩ := wave_slot h.timing k
  have harm : armRxWaithigh true { s with wdtcnt := 0 } =
      { s with wdtcnt := 0, phase := .rxAckdrive, cnt := 1, busOut := true } := by
    simp [armRxWaithigh, helem, isOwnSlot, hforme]
  have hrise : tick true (Config.tsIn s.time) s = stretching 1 s := by
    rw [tick_rxWaithigh hphase, lineOf_of_released h.busOut, harm]
    rfl
  have hhold := h.drive_stretching (k := 1) (exts := mid) (by omega)
  rw [hmid] at hhold
  rw [hwave, drive_cons h.fault, hrise, drive_append, drive_append, hhold,
    drive_cons (s := stretching (1 + 7) s) h.fault, drive_nil]
  exact congrArg (drive [false]) (h.tick_stretching_last e _)

/-- A slot at any receiver: it is done with it in `slotTicks`, and the line is low from then on. -/
theorem InPass.drive_slot (k : Bool) :
    ∃ p c, drive (wave s.par [symbolOf k]) s =
      drive (List.replicate (9 - slotTicks s.forme k) false)
        { ifContinues (ackDone (Config.tsIn (s.time + slotTicks s.forme k)) (timed p c (slotTicks s.forme k) s))
            awaitPulse with
          time := s.time + slotTicks s.forme k + 1 } := by
  cases hforme : s.forme with
  | true => exact ⟨_, _, h.drive_ownSlot hphase helem hforme k⟩
  | false =>
    have hrx : ReceivingSymbol f .ack s := ⟨h.fault, h.timing, h.busOut, helem, fun _ => hforme⟩
    have hpulse := hrx.drive_pulse hphase k
    rw [rxDeliver_of_ack (s := measuring _ s) helem] at hpulse
    exact ⟨_, _, hpulse⟩

/-- A slot that a value follows leaves the receiver at that field's first symbol (45_frame_receive.md R159). -/
theorem InPass.drive_slot_next {g : FieldCode} {d : Byte}
    (hnext : nextElem s.elem s.didx s.frame.len = some (.el g .val, d)) (k : Bool) :
    drive (wave s.par [symbolOf k]) s = rxNext g (restAfterSlot s.forme k) 10 { s with didx := d } := by
  obtain ⟨p, c, hslot⟩ := h.drive_slot hphase helem k
  have hin := h.enterElem g .val d
  have hlow := hin.drive_low (m := 9 - slotTicks s.forme k) (by omega) (slotTicks s.forme k + 1)
  have hrest : sat16 (9 - slotTicks s.forme k) = restAfterSlot s.forme k := by cases s.forme <;> cases k <;> rfl
  have hticks : slotTicks s.forme k + 1 + (9 - slotTicks s.forme k) = 10 := by cases s.forme <;> cases k <;> rfl
  rw [hrest, hticks] at hlow
  rw [hslot, ackDone_next (s := timed p c _ s) hnext]
  exact hlow

end

/-! ## A field with a slot -/

/-- The receiver at field f's slot, the field taken from s on (43_acknowledge.md R129, R131). -/
def slotAwaited (f : FieldCode) (v : BitVec (fieldWidth f)) (fr : FrameBuf) (s : State) : State :=
  waiting (restAfter (parityOf v)) (10 * (fieldWidth f + 1)) (enterElem (.el f .ack) s.didx (fieldTaken f v fr s))

section

variable {f g : FieldCode} {s : State} {x : AckField (fieldWidth f)} {fr : FrameBuf} {d : Byte} (h : RxAt f s)

include h

theorem inPass_slotAwaited (v : BitVec (fieldWidth f)) : InPass (slotAwaited f v fr s) := by
  obtain ⟨hfault, htiming, _, hbus, _⟩ := h
  exact ⟨hfault, htiming, hbus, f, .ack, rfl⟩

variable (hparity : hasParity f = true) (hp : x.p = parityOf x.v)
  (hstore : storeField s.frame s.didx f (x.v.setWidth 12) = some fr) (hlen : f = .length → fr.len.toNat ≤ maxData)
  (hslot : nextElem (.el f .par) s.didx fr.len = some (.el f .ack, s.didx))

include hparity hp hstore hlen hslot

/-- A field row's value and parity symbol bring the receiver to the field's slot. -/
theorem drive_rxToSlot :
    drive (wave s.par (ackFieldSymbols x)) s = drive (wave s.par [symbolOf x.k]) (slotAwaited f x.v fr s) := by
  have hfield := drive_rxParField h hparity hstore hlen hslot
  have hsymbols : ackFieldSymbols x = valueSymbols x.v ++ [symbolOf (parityOf x.v)] ++ [symbolOf x.k] := by
    simp [ackFieldSymbols, hp]
  rw [hsymbols, wave_append, drive_append, hfield, slotAwaited]

/-- A field row with its parity right that another field follows (45_frame_receive.md R152 to R159). -/
theorem drive_rxAckField {mine : Bool}
    (hmine : mine = if f = .slave then decide (fr.slave = s.ownAddr) else s.forme)
    (hnext : nextElem (.el f .ack) s.didx fr.len = some (.el g .val, d)) :
    drive (wave s.par (ackFieldSymbols x)) s =
      rxNext g (restAfterSlot mine x.k) (10 * (fieldWidth f + 2))
        { s with frame := fr, forme := mine, didx := d } := by
  have hforme : (slotAwaited f x.v fr s).forme = mine := hmine.symm
  have hrun := (inPass_slotAwaited h x.v).drive_slot_next (f := f) rfl rfl hnext x.k
  have hticks : s.time + 10 * (fieldWidth f + 1) + 10 = s.time + 10 * (fieldWidth f + 2) := by omega
  rw [drive_rxToSlot h hparity hp hstore hlen hslot]
  refine hrun.trans ?_
  rw [hforme, rxNext, rxNext, ← hticks, ← hforme]
  rfl

end

/-! ## The field rows -/

theorem parFieldSymbols_of_parity {w : Nat} {a : ParField w} (hp : a.p = parityOf a.v) :
    parFieldSymbols a = valueSymbols a.v ++ [symbolOf (parityOf a.v)] := by
  rw [parFieldSymbols, hp]

section

variable {s : State}

/-- The mode row (45_frame_receive.md R150). -/
theorem drive_rxMode (h : RxAt .mode s) (m : Bool) :
    drive (wave s.par [symbolOf m]) s =
      rxNext .master (restAfter m) 10 { s with frame := { s.frame with mode := m } } := by
  have hstore : storeField s.frame s.didx .mode ((BitVec.ofBool m).setWidth 12) =
      some { s.frame with mode := m } := by simp [storeField]
  have hsymbols : valueSymbols (BitVec.ofBool m) = [symbolOf m] := by cases m <;> rfl
  rw [← hsymbols]
  refine (drive_rxValue (f := .mode) (v := BitVec.ofBool m) h (by decide) hstore rfl).trans ?_
  cases m <;> rfl

/-- The master row, parity right (45_frame_receive.md R151). -/
theorem drive_rxMaster (h : RxAt .master s) {a : ParField 12} (hp : a.p = parityOf a.v) :
    drive (wave s.par (parFieldSymbols a)) s =
      rxNext .slave (restAfter a.p) 130 { s with frame := { s.frame with master := a.v } } := by
  have hstore : storeField s.frame s.didx .master (a.v.setWidth 12) = some { s.frame with master := a.v } := by
    simp [storeField]
  rw [parFieldSymbols_of_parity hp, hp]
  exact drive_rxParField (f := .master) h rfl hstore nofun rfl

/-- The slave row, parity right (45_frame_receive.md R152, R153). -/
theorem drive_rxSlave (h : RxAt .slave s) {b : AckField 12} (hp : b.p = parityOf b.v) :
    drive (wave s.par (ackFieldSymbols b)) s =
      rxNext .control (restAfterSlot (decide (b.v = s.ownAddr)) b.k) 140
        { s with frame := { s.frame with slave := b.v }, forme := decide (b.v = s.ownAddr) } := by
  have hstore : storeField s.frame s.didx .slave (b.v.setWidth 12) = some { s.frame with slave := b.v } := by
    simp [storeField]
  exact drive_rxAckField (f := .slave) h rfl hp hstore nofun rfl rfl rfl

/-- The control row, parity right (45_frame_receive.md R155). -/
theorem drive_rxControl (h : RxAt .control s) {c : AckField 4} (hp : c.p = parityOf c.v) :
    drive (wave s.par (ackFieldSymbols c)) s =
      rxNext .length (restAfterSlot s.forme c.k) 60 { s with frame := { s.frame with ctrl := c.v } } := by
  have hstore : storeField s.frame s.didx .control (c.v.setWidth 12) = some { s.frame with ctrl := c.v } := by
    simp [storeField]
  exact drive_rxAckField (f := .control) h rfl hp hstore nofun rfl rfl rfl

theorem storeField_length (fr : FrameBuf) (d : Byte) (v : Byte) :
    storeField fr d .length (v.setWidth 12) = some { fr with len := v } := by
  simp [storeField]

/-- The length row with a length from 1 to 32, parity right (45_frame_receive.md R156). -/
theorem drive_rxLength (h : RxAt .length s) {l : AckField 8} (hp : l.p = parityOf l.v) (hne : l.v ≠ 0)
    (hle : l.v.toNat ≤ maxData) :
    drive (wave s.par (ackFieldSymbols l)) s =
      rxNext .data (restAfterSlot s.forme l.k) 100 { s with frame := { s.frame with len := l.v }, didx := 0 } :=
  drive_rxAckField (f := .length) h rfl hp (storeField_length _ _ _) (fun _ => hle) rfl rfl (if_neg hne)

theorem storeField_data {fr : FrameBuf} {d : Byte} (v : Byte) (h : d.toNat < 32) :
    storeField fr d .data (v.setWidth 12) = some { fr with data := fr.data.set d.toNat v h } := by
  simp [storeField, maxData, h, Vector.setIfInBounds, Vector.set, Array.setIfInBounds]

/-- A data row that is not the last, parity right (45_frame_receive.md R157). -/
theorem drive_rxData (h : RxAt .data s) {x : AckField 8} (hp : x.p = parityOf x.v) (hidx : s.didx.toNat < 32)
    (hmore : s.didx.toNat + 1 < s.frame.len.toNat) :
    drive (wave s.par (ackFieldSymbols x)) s =
      rxNext .data (restAfterSlot s.forme x.k) 100
        { s with frame := { s.frame with data := s.frame.data.set s.didx.toNat x.v hidx }, didx := s.didx + 1 } :=
  drive_rxAckField (f := .data) h rfl hp (storeField_data x.v hidx) nofun rfl rfl (if_pos hmore)

/-- The receiver at the length's parity symbol, the length stored. -/
def lengthStored (v : Byte) (s : State) : State :=
  waiting (restAfter (v.getLsbD 0)) 80
    (enterElem (.el .length .par) s.didx (valueStored v { s.frame with len := v } s))

/-- The model stopped by the length l in the sample that accepts its parity symbol (60_exceptions.md R193). -/
def overlongStop (l : AckField 8) (s : State) : State :=
  { raise .lengthOverflow (measuring (highTicks l.p) (lengthStored l.v s)) with
    time := s.time + 80 + highTicks l.p + 1 }

/-- A length above 32 stops the model with the sample that accepts its parity (60_exceptions.md R193); the rest of the
row finds it stopped. -/
theorem drive_rxOverlong (h : RxAt .length s) {l : AckField 8} (hp : l.p = parityOf l.v) (hover : maxData < l.v.toNat) :
    drive (wave s.par (ackFieldSymbols l)) s = overlongStop l s := by
  obtain ⟨hfault, htiming, _, hbus, _⟩ := id h
  have hvalue : drive (wave s.par (valueSymbols l.v)) s = lengthStored l.v s :=
    drive_rxValue (f := .length) h (by decide) (storeField_length _ _ _) rfl
  have hrx : ReceivingSymbol .length .par (lengthStored l.v s) := ⟨hfault, htiming, hbus, rfl, nofun⟩
  have hright : l.p = (lengthStored l.v s).parity := hp.trans (Bool.xor_false _).symm
  have hdeliver : ∀ ts, rxDeliver l.p ts (measuring (highTicks l.p) (lengthStored l.v s)) =
      (raise .lengthOverflow (measuring (highTicks l.p) (lengthStored l.v s)), false) := fun ts => by
    rw [rxDeliver_of_par (s := measuring _ (lengthStored l.v s)) hrx.elem]
    obtain ⟨hwrong, _⟩ | ⟨_, _, _, hstop⟩ | ⟨_, hfits, _⟩ :=
      deliverPar_cases .length l.p (measuring (highTicks l.p) (lengthStored l.v s))
    · exact absurd hright hwrong
    · exact hstop
    · exact absurd ⟨rfl, hover⟩ hfits
  have hsymbols : ackFieldSymbols l = valueSymbols l.v ++ ([symbolOf l.p] ++ [symbolOf l.k]) := rfl
  have hstopped : ∀ es, drive es (overlongStop l s) = overlongStop l s := drive_fault (r := .lengthOverflow) rfl
  have hparity : drive (wave s.par [symbolOf l.p]) (lengthStored l.v s) = overlongStop l s := by
    refine (hrx.drive_pulse rfl l.p).trans ?_
    rw [hdeliver]
    exact hstopped _
  rw [hsymbols, wave_append, drive_append, hvalue, wave_append, drive_append, hparity, hstopped]

end

end Sys2Proof.Machine

open Sys2Proof Sys2Proof.Machine

/-- Settles O39: `drive_rxMode` and `drive_rxMaster`. -/
theorem modeAndMasterReceived : Obligations.ModeAndMasterReceived := by
  refine ⟨fun s m hat => ?_, fun s a hat hp => ?_⟩
  · obtain ⟨hfault, _⟩ := id hat
    exact (live_none hfault _).trans (congrArg _ (drive_rxMode hat m))
  · obtain ⟨hfault, _⟩ := id hat
    exact (live_none hfault _).trans (congrArg _ (drive_rxMaster hat hp))

/-- Settles O40: `drive_rxSlave`. -/
theorem slaveFieldReceived : Obligations.SlaveFieldReceived := by
  intro s b hat hp
  obtain ⟨hfault, _⟩ := id hat
  exact (live_none hfault _).trans (congrArg _ (drive_rxSlave hat hp))

/-- Settles O41: `drive_rxControl`, `drive_rxLength` and `drive_rxData`. -/
theorem controlLengthDataReceived : Obligations.ControlLengthDataReceived := by
  refine ⟨fun s c hat hp => ?_, fun s l hat hp hne hle => ?_, ?_⟩
  · obtain ⟨hfault, _⟩ := id hat
    exact (live_none hfault _).trans (congrArg _ (drive_rxControl hat hp))
  · obtain ⟨hfault, _⟩ := id hat
    exact (live_none hfault _).trans (congrArg _ (drive_rxLength hat hp hne hle))
  · rintro s d _ hi hat rfl hmore hp
    obtain ⟨hfault, _⟩ := id hat
    exact (live_none hfault _).trans (congrArg _ (drive_rxData hat hp hi hmore))

/-- Settles O42: `drive_rxOverlong`; a stopped model takes no step (`step_of_fault`). -/
theorem overlongLengthStopsTheModel : Obligations.OverlongLengthStopsTheModel := by
  intro s l hat hp hover
  obtain ⟨hfault, _⟩ := id hat
  have htime : s.time + 80 + highTicks l.p + 1 = s.time + 80 + if l.p then 6 else 10 := by cases l.p <;> rfl
  refine ⟨_, (live_none hfault _).trans (congrArg _ (drive_rxOverlong hat hp hover)), rfl, rfl, htime, rfl, ?_⟩
  exact step_of_fault rfl

end

section
/-! A FRAME row at a listening block: the fields are received one after another into FRAME, the last slot ends the pass,
and RxFinish answers, surfaces or filters the frame (45_frame_receive.md R149 to R167, 70_reset_and_hazards.md R222). -/

namespace Sys2Proof.Machine

/-! ## Data bytes -/

theorem receivedBytes_getElem (ds : List (AckField 8)) (i : Nat) (hi : i < 32) :
    (receivedBytes ds)[i] = ((ds.map (·.v))[i]?).getD 0 := by
  simp [receivedBytes, overlay]

theorem receivedBytes_nil : receivedBytes [] = Vector.replicate 32 0 := by
  apply Vector.ext
  intro i hi
  simp [receivedBytes_getElem]

/-- One more byte received. -/
theorem receivedBytes_set (done : List (AckField 8)) (x : AckField 8) (h : done.length < 32) :
    (receivedBytes done).set done.length x.v h = receivedBytes (done ++ [x]) := by
  apply Vector.ext
  intro i hi
  rw [Vector.getElem_set, receivedBytes_getElem, receivedBytes_getElem, List.map_append, List.getElem?_append, List.length_map]
  obtain hlt | rfl | hgt := Nat.lt_trichotomy i done.length
  · simp [hlt, Nat.ne_of_gt hlt]
  · simp
  · have hpast : i - done.length ≠ 0 := by omega
    simp [Nat.not_lt_of_lt hgt, Nat.ne_of_lt hgt, hpast]

/-- The header of a frame with the bytes received so far, the rest 0 (42_start_arbitration.md R115). -/
@[irreducible] def withBytes (ds : List (AckField 8)) (fr : FrameBuf) : FrameBuf := { fr with data := receivedBytes ds }

theorem withBytes_len (ds : List (AckField 8)) (fr : FrameBuf) : (withBytes ds fr).len = fr.len := by
  rw [withBytes]

theorem frameOf_eq (m : Bool) (a : ParField 12) (b : AckField 12) (c : AckField 4) (l : AckField 8)
    (ds : List (AckField 8)) :
    frameOf m a b c l ds =
      withBytes ds { FrameBuf.zero with mode := m, master := a.v, slave := b.v, ctrl := c.v, len := l.v } := by
  rw [withBytes, frameOf]

theorem storeField_withBytes {done : List (AckField 8)} {d : Byte} (hdidx : d.toNat = done.length)
    (hidx : d.toNat < 32) (fr : FrameBuf) (x : AckField 8) :
    storeField (withBytes done fr) d .data (x.v.setWidth 12) = some (withBytes (done ++ [x]) fr) := by
  have hbyte : (receivedBytes done).set d.toNat x.v hidx = receivedBytes (done ++ [x]) := by
    simp only [hdidx, receivedBytes_set]
  rw [storeField_data x.v hidx]
  simp only [withBytes, hbyte]

/-! ## The places of the pass -/

theorem nextElem_lastByte {d len : Byte} (h : len.toNat ≤ d.toNat + 1) :
    nextElem (.el .data .ack) d len = some (.fin, d) := if_neg (Nat.not_lt.mpr h)

theorem nextElem_moreBytes {d len : Byte} (h : d.toNat + 1 < len.toNat) :
    nextElem (.el .data .ack) d len = some (.el .data .val, d + 1) := if_pos h

/-- The receiver n ticks after a listening block s has seen a start bit's first tick, at field f's first symbol. -/
def atField (f : FieldCode) (rest : BitVec 16) (n : Nat) (fr : FrameBuf) (mine : Bool) (d : Byte) (s : State) : State :=
  rxNext f rest n { watchdog s with frame := fr, forme := mine, didx := d }

theorem rxNext_atField (f g : FieldCode) (c c' : BitVec 16) (n k : Nat) (fr fr' : FrameBuf) (mine mine' : Bool)
    (d d' : Byte) (s : State) :
    rxNext g c' k { atField f c n fr mine d s with frame := fr', forme := mine', didx := d' } =
      atField g c' (n + k) fr' mine' d' s := by
  simp only [atField, rxNext, Nat.add_assoc]

/-- The state but for the registers that a receive pass works on. -/
def besidesPass (s : State) : State :=
  { s with
    phase := .idle
    cnt := 0
    elem := .fin
    nbits := 0
    didx := 0
    shift := 0
    parity := false
    forme := false
    frame := .zero
    wdtcnt := 0
    time := 0 }

section

variable (s : State)

theorem besidesPass_timed (p : Phase) (c : BitVec 16) (n : Nat) : besidesPass (timed p c n s) = besidesPass s := rfl

theorem besidesPass_enterElem (e : Elem) (d : Byte) : besidesPass (enterElem e d s) = besidesPass s := by
  obtain ⟨_, _, _, h, _⟩ := enterElem_eq e d s
  rw [h]
  rfl

theorem besidesPass_fieldTaken (f : FieldCode) {w : Nat} (v : BitVec w) (fr : FrameBuf) :
    besidesPass (fieldTaken f v fr s) = besidesPass s := rfl

theorem besidesPass_slotAwaited (f : FieldCode) (v : BitVec (fieldWidth f)) (fr : FrameBuf) :
    besidesPass (slotAwaited f v fr s) = besidesPass s := by
  rw [slotAwaited, besidesPass_timed, besidesPass_enterElem, besidesPass_fieldTaken]

theorem besidesPass_atField (f : FieldCode) (rest : BitVec 16) (n : Nat) (fr : FrameBuf) (mine : Bool) (d : Byte) :
    besidesPass (atField f rest n fr mine d s) = besidesPass (watchdog s) := by
  rw [atField]
  generalize watchdog s = t
  rfl

end

/-- The receiver n ticks on, at the slot of the frame's last field: FRAME holds fr, and nothing beside the pass has
changed. -/
structure AtLastSlot (fr : FrameBuf) (mine : Bool) (n : Nat) (s u : State) : Prop extends InPass u where
  phase : u.phase = .rxWaithigh
  slot : ∃ f, u.elem = .el f .ack
  last : nextElem u.elem u.didx u.frame.len = some (.fin, u.didx)
  frame : u.frame = fr
  forme : u.forme = mine
  time : u.time = s.time + n
  beside : besidesPass u = besidesPass (watchdog s)

section

variable {s : State} (h : Listening s) {rest : BitVec 16} {n : Nat} {fr : FrameBuf} {mine : Bool} {d : Byte}

include h

theorem rxAt_atField (f : FieldCode) : RxAt f (atField f rest n fr mine d s) := by
  obtain ⟨hfault, htiming, _, hbus, _⟩ := h
  exact ⟨hfault, htiming, rfl, hbus, rfl, rfl, rfl, rfl⟩

/-- The last field's value and parity symbol bring the receiver to its slot. -/
theorem atLastSlot_slotAwaited {f : FieldCode} (hf : f ≠ .slave) (v : BitVec (fieldWidth f)) {fr' : FrameBuf}
    (hlast : nextElem (.el f .ack) d fr'.len = some (.fin, d)) :
    AtLastSlot fr' mine (n + 10 * (fieldWidth f + 1)) s (slotAwaited f v fr' (atField f rest n fr mine d s)) := by
  have hforme : (slotAwaited f v fr' (atField f rest n fr mine d s)).forme = mine := if_neg hf
  have hbeside : besidesPass (slotAwaited f v fr' (atField f rest n fr mine d s)) = besidesPass (watchdog s) :=
    (besidesPass_slotAwaited _ _ _ _).trans (besidesPass_atField _ _ _ _ _ _ _)
  exact ⟨inPass_slotAwaited (rxAt_atField h f) v, rfl, ⟨f, rfl⟩, hlast, rfl, hforme, Nat.add_assoc _ _ _, hbeside⟩

/-! ## The data fields -/

/-- The data fields from byte DIDX on, to the last one's slot (45_frame_receive.md R157). -/
theorem drive_toLastSlot_data {x : AckField 8} {xs done : List (AckField 8)} (l : AckField 8)
    (hdidx : d.toNat = done.length) (hcount : done.length + (xs.length + 1) = fr.len.toNat)
    (hlen : fr.len.toNat ≤ 32) (hp : ∀ y ∈ x :: xs, y.p = parityOf y.v) :
    ∃ u, drive (wave s.par (dataFieldSymbols (x :: xs))) (atField .data rest n (withBytes done fr) mine d s) =
        drive (wave s.par [symbolOf (lastSlot l (x :: xs))]) u ∧
      AtLastSlot (withBytes (done ++ x :: xs) fr) mine (n + 100 * xs.length + 90) s u := by
  have hidx : d.toNat < 32 := by omega
  have hfirst : x.p = parityOf x.v := hp x List.mem_cons_self
  induction xs generalizing x done n d rest with
  | nil =>
    rw [List.length_nil] at hcount
    have hlast : nextElem (.el .data .ack) d (withBytes (done ++ [x]) fr).len = some (.fin, d) :=
      nextElem_lastByte (by rw [withBytes_len]; omega)
    have hrow : drive (wave s.par (ackFieldSymbols x)) (atField .data rest n (withBytes done fr) mine d s) =
        drive (wave s.par [symbolOf x.k])
          (slotAwaited .data x.v (withBytes (done ++ [x]) fr) (atField .data rest n (withBytes done fr) mine d s)) :=
      drive_rxToSlot (f := .data) (rxAt_atField h .data) rfl hfirst (storeField_withBytes hdidx hidx fr x) nofun rfl
    have hend : AtLastSlot (withBytes (done ++ [x]) fr) mine (n + 90) s
        (slotAwaited .data x.v (withBytes (done ++ [x]) fr) (atField .data rest n (withBytes done fr) mine d s)) :=
      atLastSlot_slotAwaited h (f := .data) nofun x.v hlast
    refine ⟨_, ?_, hend⟩
    rw [dataFieldSymbols, List.flatMap_cons, List.flatMap_nil, List.append_nil]
    exact hrow
  | cons y ys ih =>
    rw [List.length_cons] at hcount
    have hmore : nextElem (.el .data .ack) d (withBytes (done ++ [x]) fr).len = some (.el .data .val, d + 1) :=
      nextElem_moreBytes (by rw [withBytes_len]; omega)
    have hrow : drive (wave s.par (ackFieldSymbols x)) (atField .data rest n (withBytes done fr) mine d s) =
        atField .data (restAfterSlot mine x.k) (n + 100) (withBytes (done ++ [x]) fr) mine (d + 1) s :=
      (drive_rxAckField (f := .data) (rxAt_atField h .data) rfl hfirst (storeField_withBytes hdidx hidx fr x) nofun
        rfl rfl hmore).trans (rxNext_atField ..)
    have hsucc : (d + 1).toNat = d.toNat + 1 := by bv_omega
    have hdidx' : (d + 1).toNat = (done ++ [x]).length := by
      rw [hsucc, hdidx, List.length_append, List.length_singleton]
    have hp' : ∀ z ∈ y :: ys, z.p = parityOf z.v := fun z hz => hp z (List.mem_cons_of_mem x hz)
    obtain ⟨u, hrest, hend⟩ := ih (x := y) (done := done ++ [x]) (n := n + 100) (d := d + 1)
      (rest := restAfterSlot mine x.k) hdidx' (by omega) hp' (by omega) (hp' y List.mem_cons_self)
    have hticks : n + 100 + 100 * ys.length + 90 = n + 100 * (y :: ys).length + 90 := by
      rw [List.length_cons]
      omega
    have hsplit : dataFieldSymbols (x :: y :: ys) = ackFieldSymbols x ++ dataFieldSymbols (y :: ys) := rfl
    rw [hticks, List.append_assoc, List.singleton_append] at hend
    refine ⟨u, ?_, hend⟩
    rw [hsplit, wave_append, drive_append, hrow, hrest]
    rfl

end

/-! ## The header -/

section

variable {s : State} (h : Listening s) (m : Bool) {a : ParField 12} {b : AckField 12} {c : AckField 4}

include h

/-- START and the fields before the length, parity right (45_frame_receive.md R150 to R155). -/
theorem drive_header (ha : a.p = parityOf a.v) (hb : b.p = parityOf b.v) (hc : c.p = parityOf c.v) :
    ∃ rest, drive (wave s.par ([.start] ++ ([symbolOf m] ++ (parFieldSymbols a ++
        (ackFieldSymbols b ++ ackFieldSymbols c))))) s =
      atField .length rest 387 { FrameBuf.zero with mode := m, master := a.v, slave := b.v, ctrl := c.v }
        (decide (b.v = s.ownAddr)) 0 s := by
  have hstart : drive (wave s.par [.start]) s = atField .mode 4 47 .zero false 0 s := drive_start h
  have hmode : drive (wave s.par [symbolOf m]) (atField .mode 4 47 .zero false 0 s) =
      atField .master (restAfter m) 57 { FrameBuf.zero with mode := m } false 0 s :=
    drive_rxMode (rxAt_atField h .mode) m
  have hmaster : drive (wave s.par (parFieldSymbols a))
      (atField .master (restAfter m) 57 { FrameBuf.zero with mode := m } false 0 s) =
      atField .slave (restAfter a.p) 187 { FrameBuf.zero with mode := m, master := a.v } false 0 s :=
    drive_rxMaster (rxAt_atField h .master) ha
  have hslave : drive (wave s.par (ackFieldSymbols b))
      (atField .slave (restAfter a.p) 187 { FrameBuf.zero with mode := m, master := a.v } false 0 s) =
      atField .control (restAfterSlot (decide (b.v = s.ownAddr)) b.k) 327
        { FrameBuf.zero with mode := m, master := a.v, slave := b.v } (decide (b.v = s.ownAddr)) 0 s :=
    drive_rxSlave (rxAt_atField h .slave) hb
  have hcontrol : drive (wave s.par (ackFieldSymbols c))
      (atField .control (restAfterSlot (decide (b.v = s.ownAddr)) b.k) 327
        { FrameBuf.zero with mode := m, master := a.v, slave := b.v } (decide (b.v = s.ownAddr)) 0 s) =
      atField .length (restAfterSlot (decide (b.v = s.ownAddr)) c.k) 387
        { FrameBuf.zero with mode := m, master := a.v, slave := b.v, ctrl := c.v } (decide (b.v = s.ownAddr)) 0 s :=
    drive_rxControl (rxAt_atField h .control) hc
  refine ⟨restAfterSlot (decide (b.v = s.ownAddr)) c.k, ?_⟩
  rw [wave_append, drive_append, hstart, wave_append, drive_append, hmode, wave_append, drive_append, hmaster,
    wave_append, drive_append, hslave, hcontrol]

/-- The length and data fields from the header on, to the last one's slot (45_frame_receive.md R156, R157). -/
theorem drive_toLastSlot_length {rest : BitVec 16} {n : Nat} {fr : FrameBuf} {mine : Bool} {l : AckField 8}
    {ds : List (AckField 8)} (hbytes : fr.data = receivedBytes []) (hcount : ds.length = l.v.toNat)
    (hlen : l.v.toNat ≤ maxData) (hl : l.p = parityOf l.v) (hp : ∀ y ∈ ds, y.p = parityOf y.v) :
    ∃ u, drive (wave s.par (ackFieldSymbols l ++ dataFieldSymbols ds)) (atField .length rest n fr mine 0 s) =
        drive (wave s.par [symbolOf (lastSlot l ds)]) u ∧
      AtLastSlot (withBytes ds { fr with len := l.v }) mine (n + 90 + 100 * ds.length) s u := by
  have hnone : { fr with len := l.v } = withBytes [] { fr with len := l.v } := by
    rw [withBytes, ← hbytes]
  have hstore : storeField fr 0 .length (l.v.setWidth 12) = some (withBytes [] { fr with len := l.v }) := by
    rw [storeField_length, ← hnone]
  have hfits : (withBytes [] { fr with len := l.v }).len.toNat ≤ maxData := by rwa [withBytes_len]
  rw [wave_append, drive_append]
  cases ds with
  | nil =>
    have hzero : l.v = 0 := by
      rw [List.length_nil] at hcount
      bv_omega
    have hlast : nextElem (.el .length .ack) 0 (withBytes [] { fr with len := l.v }).len = some (.fin, 0) := by
      rw [withBytes_len]
      exact if_pos hzero
    have hrow : drive (wave s.par (ackFieldSymbols l)) (atField .length rest n fr mine 0 s) =
        drive (wave s.par [symbolOf l.k])
          (slotAwaited .length l.v (withBytes [] { fr with len := l.v }) (atField .length rest n fr mine 0 s)) :=
      drive_rxToSlot (f := .length) (rxAt_atField h .length) rfl hl hstore (fun _ => hfits) rfl
    exact ⟨_, hrow, atLastSlot_slotAwaited h (f := .length) nofun l.v hlast⟩
  | cons x xs =>
    rw [List.length_cons] at hcount
    have hne : l.v ≠ 0 := by bv_omega
    have hnext : nextElem (.el .length .ack) 0 (withBytes [] { fr with len := l.v }).len =
        some (.el .data .val, 0) := by
      rw [withBytes_len]
      exact if_neg hne
    have hrow : drive (wave s.par (ackFieldSymbols l)) (atField .length rest n fr mine 0 s) =
        atField .data (restAfterSlot mine l.k) (n + 100) (withBytes [] { fr with len := l.v }) mine 0 s :=
      (drive_rxAckField (f := .length) (rxAt_atField h .length) rfl hl hstore (fun _ => hfits) rfl rfl hnext).trans
        (rxNext_atField ..)
    obtain ⟨u, hrest, hend⟩ := drive_toLastSlot_data h (x := x) (xs := xs) (done := []) (d := 0) (n := n + 100)
      (fr := { fr with len := l.v }) (rest := restAfterSlot mine l.k) (mine := mine) l rfl
      ((Nat.zero_add _).trans hcount) hlen hp
    have hticks : n + 100 + 100 * xs.length + 90 = n + 90 + 100 * (x :: xs).length := by
      rw [List.length_cons]
      omega
    rw [hticks] at hend
    exact ⟨u, hrow ▸ hrest, hend⟩

/-- A FRAME row with its parity right brings a listening block to the last field's slot. -/
theorem drive_toLastSlot {l : AckField 8} {ds : List (AckField 8)} (hcount : ds.length = l.v.toNat)
    (hlen : l.v.toNat ≤ maxData) (hp : ParityRight a b c l ds) :
    ∃ u, drive (wave s.par (frameSymbols m a b c l ds)) s = drive (wave s.par [symbolOf (lastSlot l ds)]) u ∧
      AtLastSlot (frameOf m a b c l ds) (decide (b.v = s.ownAddr)) (477 + 100 * ds.length) s u := by
  obtain ⟨ha, hb, hc, hl, hds⟩ := hp
  obtain ⟨rest, hheader⟩ := drive_header h m ha hb hc
  obtain ⟨u, hrest, hend⟩ := drive_toLastSlot_length h (rest := rest) (n := 387) (l := l) (ds := ds)
    (fr := { FrameBuf.zero with mode := m, master := a.v, slave := b.v, ctrl := c.v })
    (mine := decide (b.v = s.ownAddr)) receivedBytes_nil.symm hcount hlen hl hds
  have hsplit : frameSymbols m a b c l ds = ([.start] ++ ([symbolOf m] ++ (parFieldSymbols a ++
      (ackFieldSymbols b ++ ackFieldSymbols c)))) ++ (ackFieldSymbols l ++ dataFieldSymbols ds) := by
    simp [frameSymbols]
  rw [frameOf_eq]
  refine ⟨u, ?_, hend⟩
  rw [hsplit, wave_append, drive_append, hheader, hrest]

end

/-! ## The end of the pass -/

/-- The end of a receive pass reads neither the phase nor the count. -/
theorem rxFinish_phase_cnt (ts : Stamp) (p : Phase) (c : BitVec 16) (s : State) :
    rxFinish ts { s with phase := p, cnt := c } = rxFinish ts s := rfl

/-- The receiver that RxFinish finds n ticks after its last slot's first. -/
def finishing (n : Nat) (u : State) : State := { u with elem := .fin, wdtcnt := 0, time := u.time + n }

/-- The state after that tick (45_frame_receive.md R159, R161). -/
def passOver (n : Nat) (u : State) : State :=
  { rxFinish (Config.tsIn (u.time + n)) (finishing n u) with time := u.time + n + 1 }

section

variable {s u : State} {fr : FrameBuf} {mine : Bool} {n : Nat} (h : AtLastSlot fr mine n s u)

include h

/-- The last slot ends the pass; the line is low from then on. -/
theorem AtLastSlot.drive_slot (k : Bool) :
    drive (wave u.par [symbolOf k]) u =
      drive (List.replicate (9 - slotTicks mine k) false) (passOver (slotTicks mine k) u) := by
  obtain ⟨f, helem⟩ := h.slot
  obtain ⟨p, c, hslot⟩ := h.toInPass.drive_slot h.phase helem k
  rw [h.forme] at hslot
  rw [hslot, ackDone_fin (s := timed p c _ u) h.last]
  exact congrArg (drive _) (congrArg (fun t : State => { t with time := u.time + slotTicks mine k + 1 })
    (rxFinish_phase_cnt _ p c (finishing (slotTicks mine k) u)))

end

/-! ## What the registers outside the pass still hold -/

section

variable {s u : State} {fr : FrameBuf} {mine : Bool} {n : Nat} (h : AtLastSlot fr mine n s u)

include h

theorem AtLastSlot.par_eq : u.par = s.par := (congrArg State.par h.beside :)

theorem AtLastSlot.registered_eq : u.registered = s.registered := (congrArg State.registered h.beside :)

theorem AtLastSlot.regTs_eq : u.regTs = s.regTs := (congrArg State.regTs h.beside :)

theorem AtLastSlot.txPending_eq : u.txPending = s.txPending := (congrArg State.txPending h.beside :)

theorem AtLastSlot.passEvents_eq : passEvents u.events = passEvents s.events :=
  (congrArg (fun t : State => passEvents t.events) h.beside).trans (passEvents_watchdog s)

/-- Whether the frame is the probe is asked of what was received and of the host's registers. -/
theorem AtLastSlot.isProbe_eq (hmine : mine = decide (fr.slave = s.ownAddr)) (ts : Stamp) (k : Nat) :
    isProbe (register ts (finishing k u)) = probeFor s fr := by
  have hasked : isProbe (register ts (finishing k u)) = (u.forme && decide (u.frame.len = 3) &&
      decide (u.frame.data[0] = u.par.probeOpcode) && decide (u.frame.data[2] = u.par.probeTerm)) := rfl
  rw [hasked, h.forme, h.frame, h.par_eq, hmine, probeFor]

/-- So is the filter's rule. -/
theorem AtLastSlot.surfaces_eq (hmine : mine = decide (fr.slave = s.ownAddr)) (ts : Stamp) (k : Nat) :
    surfaces (register ts (finishing k u)) = surfacedBy s fr := by
  have hasked : surfaces (register ts (finishing k u)) = (!u.filterEn || u.forme ||
      (decide (u.frame.mode = u.par.modeBcastBit) && decide (u.frame.slave = u.bcastAddr))) := rfl
  have hfilter : u.filterEn = s.filterEn := (congrArg State.filterEn h.beside :)
  have hbcast : u.bcastAddr = s.bcastAddr := (congrArg State.bcastAddr h.beside :)
  rw [hasked, h.forme, h.frame, h.par_eq, hfilter, hbcast, hmine, surfacedBy]

end

/-! ## The frame surfaced or filtered -/

/-- The events of the end of a pass that is no probe, in their order (45_frame_receive.md R166, R167). -/
def endEvents (surfaced : Bool) (stop : Nat) (fr : FrameBuf) : List (Nat × Event) :=
  if surfaced then stamped stop [.rxDone 0x0001, .rxValid, .diagDump (dumpOf fr)] else stamped stop [.rxDone 0x0002]

/-- None of them is the watchdog's kick. -/
theorem passEvents_endEvents (surfaced : Bool) (stop : Nat) (fr : FrameBuf) :
    passEvents (endEvents surfaced stop fr) = endEvents surfaced stop fr := by
  cases surfaced <;> rfl

theorem passEvents_append (xs ys : List (Nat × Event)) : passEvents (xs ++ ys) = passEvents xs ++ passEvents ys :=
  List.filter_append ..

/-- The end of the pass of a frame that is no probe, without its tick (45_frame_receive.md R165 to R167). -/
theorem conclude_of_no_probe {x : State} (h : isProbe x = false) :
    conclude x = { x with
      rxResult := if surfaces x then 0x0001 else 0x0002
      events := x.events ++ endEvents (surfaces x) x.time x.frame
      phase := .idle
      cnt := 0
      busOut := false } := by
  have hdelivered : resultWord (rxKindNum .delivered) .none 0#8 = 1#16 := by decide
  have hfiltered : resultWord (rxKindNum .filtered) .none 0#8 = 2#16 := by decide
  obtain ⟨hp, _⟩ | ⟨_, hs, hend⟩ | ⟨_, hs, hend⟩ := conclude_cases x
  · cases h.symm.trans hp
  · simp [hend, hs, endEvents, emit, rxEnd, rxEndEvents, rxKindIsError, hdelivered]
  · simp [hend, hs, endEvents, rxEnd, rxEndEvents, rxKindIsError, hfiltered]

/-- A block between passes on a quiet line counts its watchdog and nothing else (40_step.md R92, R93). -/
theorem drive_idle_low {s : State} (hfault : s.fault = none) (hphase : s.phase = .idle) (hbus : s.busOut = false)
    (hpending : s.txPending = false) (m : Nat) :
    ∃ c es, drive (List.replicate m false) s = { s with wdtcnt := c, events := es, time := s.time + m } ∧
      passEvents es = passEvents s.events := by
  induction m generalizing s with
  | zero => exact ⟨s.wdtcnt, s.events, rfl, rfl⟩
  | succ m ih =>
    have htick := tick_idle_low hphase hpending (lineOf_of_released hbus false) (Config.tsIn s.time)
    obtain ⟨c, es, hrest, hes⟩ := ih (s := { watchdog s with time := s.time + 1 }) hfault hphase hbus hpending
    refine ⟨c, es, ?_, hes.trans (passEvents_watchdog s)⟩
    rw [List.replicate_succ, drive_cons hfault, htick, hrest, Nat.add_comm m, ← Nat.add_assoc]
    rfl

/-- A block back in IDLE, its pass over with the tick `stop`: FRAME, registration, result and events are those of a frame
that is no probe (45_frame_receive.md R161, R165 to R167). -/
structure Concluded (fr : FrameBuf) (mine : Bool) (stop : Nat) (s v : State) : Prop where
  fault : v.fault = none
  phase : v.phase = .idle
  busOut : v.busOut = false
  frame : v.frame = fr
  forme : v.forme = mine
  registered : v.registered = (mine || s.registered)
  regTs : v.regTs = if mine then Config.tsIn stop else s.regTs
  rxResult : v.rxResult = if surfacedBy s fr then 0x0001 else 0x0002
  txResult : v.txResult = s.txResult
  respActive : v.respActive = s.respActive
  txPending : v.txPending = false
  events : passEvents v.events = passEvents s.events ++ endEvents (surfacedBy s fr) stop fr

/-- The quiet rest of a slot changes nothing of it. -/
theorem Concluded.drive_low {fr : FrameBuf} {mine : Bool} {stop : Nat} {s v : State}
    (h : Concluded fr mine stop s v) (m : Nat) :
    ∃ w, drive (List.replicate m false) v = w ∧ Concluded fr mine stop s w ∧ w.time = v.time + m := by
  obtain ⟨c, es, hdrive, hes⟩ := drive_idle_low h.fault h.phase h.busOut h.txPending m
  exact ⟨_, hdrive, { h with events := hes.trans h.events }, rfl⟩

section

variable {s u : State} {fr : FrameBuf} {mine : Bool} {n : Nat} (h : AtLastSlot fr mine n s u)

include h

/-- The tick that ends the pass of a frame that is no probe. -/
theorem AtLastSlot.concluded (hmine : mine = decide (fr.slave = s.ownAddr)) (hprobe : probeFor s fr = false)
    (hpending : s.txPending = false) (k : Nat) : Concluded fr mine (u.time + k) s (passOver k u) := by
  have hnoprobe := (h.isProbe_eq hmine (Config.tsIn (u.time + k)) k).trans hprobe
  rw [passOver, rxFinish, conclude_of_no_probe hnoprobe, h.surfaces_eq hmine (Config.tsIn (u.time + k)) k]
  refine ⟨h.fault, rfl, rfl, h.frame, h.forme, ?_, ?_, rfl, (congrArg State.txResult h.beside :),
    (congrArg State.respActive h.beside :), h.txPending_eq.trans hpending, ?_⟩
  · rw [← h.forme, ← h.registered_eq]
    rfl
  · rw [← h.forme, ← h.regTs_eq]
    rfl
  · rw [passEvents_append, passEvents_endEvents, ← h.passEvents_eq, ← h.frame]
    rfl

end

/-- The tick that ends the pass and what is left of the last slot are the slot's ten ticks. -/
theorem slotTicks_le (mine k : Bool) : slotTicks mine k ≤ 9 := by
  cases mine <;> cases k <;> decide

section

variable {s : State} (h : Listening s) (m : Bool) {a : ParField 12} {b : AckField 12} {c : AckField 4} {l : AckField 8}
  {ds : List (AckField 8)}

include h

/-- A FRAME row with its parity right brings a listening block to the end of its pass. -/
theorem drive_frame (hcount : ds.length = l.v.toNat) (hlen : l.v.toNat ≤ maxData) (hp : ParityRight a b c l ds) :
    ∃ u, exec (.frame m a b c l ds) s =
        .next (drive (List.replicate (9 - slotTicks (decide (b.v = s.ownAddr)) (lastSlot l ds)) false)
          (passOver (slotTicks (decide (b.v = s.ownAddr)) (lastSlot l ds)) u)) ∧
      AtLastSlot (frameOf m a b c l ds) (decide (b.v = s.ownAddr)) (477 + 100 * ds.length) s u := by
  obtain ⟨hfault, -⟩ := id h
  obtain ⟨u, hrow, hu⟩ := drive_toLastSlot h m hcount hlen hp
  have hexec : exec (.frame m a b c l ds) s = .next (drive (wave s.par (frameSymbols m a b c l ds)) s) :=
    live_none hfault _
  refine ⟨u, ?_, hu⟩
  rw [hexec, hrow, ← hu.par_eq, hu.drive_slot]

end

end Sys2Proof.Machine

open Sys2Proof Sys2Proof.Machine

/-- Settles O44: `drive_frame` brings the block to the end of its pass, `AtLastSlot.concluded` says what that leaves, and
the quiet rest of the last slot keeps it. -/
theorem frameReceivedInFull : Obligations.FrameReceivedInFull := by
  intro s m a b c l ds h hwf hp hlen hprobe fr mine stop
  have hcount : ds.length = l.v.toNat := by simpa [WellFormed] using hwf
  obtain ⟨_, _, _, _, hpending⟩ := id h
  obtain ⟨u, hexec, hu⟩ := drive_frame h m hcount hlen hp
  have hstop : u.time + slotTicks mine (lastSlot l ds) = stop := by
    rw [hu.time, Nat.add_assoc]
    rfl
  have hover : Concluded fr mine (u.time + slotTicks mine (lastSlot l ds)) s (passOver _ u) :=
    hu.concluded rfl hprobe hpending _
  obtain ⟨w, hrest, hw, htime⟩ := hover.drive_low (9 - slotTicks mine (lastSlot l ds))
  rw [hrest] at hexec
  rw [hstop] at hw
  refine ⟨w, hexec, hw.fault, hw.phase, hw.busOut, hw.frame, hw.forme, hw.registered, hw.regTs, hw.rxResult, hw.txResult,
    hw.respActive, hw.txPending, ?_, hw.events⟩
  have hle := slotTicks_le mine (lastSlot l ds)
  have hlast : (passOver (slotTicks mine (lastSlot l ds)) u).time = u.time + slotTicks mine (lastSlot l ds) + 1 := rfl
  have hslot := hu.time
  omega

end

section
/-! The liveness probe: RxFinish answers it instead of surfacing it, and the block arbitrates for the reply
(45_frame_receive.md R162 to R164, 70_reset_and_hazards.md R223). -/

namespace Sys2Proof.Machine

/-- The probe's token stands at its offset, the other bytes are REPLY_DATA's (45_frame_receive.md R163). -/
theorem replyBytes_getElem (p : Params) (token : Byte) (i : Fin 32) :
    (replyBytes p token)[i] =
      if i.val = p.tokenOffset ∧ i.val < p.replyData.length then token else p.replyData.getD i.val 0 := by
  have hbyte : (replyBytes p token)[i] = (p.replyData.set p.tokenOffset token).getD i.val 0 := by simp [replyBytes]
  rw [hbyte, List.getD_eq_getElem?_getD, List.getD_eq_getElem?_getD, List.getElem?_set]
  by_cases hat : i.val = p.tokenOffset
  · by_cases hin : i.val < p.replyData.length <;> simp [← hat, hin]
  · simp [hat, Ne.symm hat]

/-- A block whose pass has been answered with the reply to `token`, arbitrating since the tick `stop`. -/
structure Answered (token : Byte) (stop : Nat) (s v : State) : Prop extends Arbitrating v where
  cnt : v.cnt = 0
  respActive : v.respActive = true
  registered : v.registered = true
  regTs : v.regTs = Config.tsIn stop
  rxResult : v.rxResult = 0x0003
  txResult : v.txResult = 0
  didx : v.didx = 0
  frame : v.frame = replyFrame token s
  time : v.time = stop + 1
  events : passEvents v.events = passEvents s.events ++ [(stop, .rxDone 0x0003)]

/-- The end of the probe's pass, without its tick (45_frame_receive.md R164). -/
theorem AtLastSlot.answered {s u : State} {fr : FrameBuf} {n : Nat} (h : AtLastSlot fr true n s u)
    (hmine : true = decide (fr.slave = s.ownAddr)) (hprobe : probeFor s fr = true) (k : Nat) :
    Answered fr.data[1] (u.time + k) s (passOver k u) := by
  have hresult : resultWord (rxKindNum .responded) .none 0 = 0x0003 := by decide
  have hreply : replyFrame u.frame.data[1] u = replyFrame u.frame.data[1] s :=
    (congrArg (replyFrame u.frame.data[1]) h.beside :)
  have hregistered : (u.forme || u.registered) = true := by rw [h.forme, Bool.true_or]
  have hregTs : (if u.forme then Config.tsIn (u.time + k) else u.regTs) = Config.tsIn (u.time + k) := if_pos h.forme
  have hevents : passEvents (u.events ++ [(u.time + k, .rxDone 0x0003)]) =
      passEvents s.events ++ [(u.time + k, .rxDone 0x0003)] := by
    rw [passEvents_append, h.passEvents_eq]
    rfl
  obtain ⟨_, hover⟩ | ⟨hno, _⟩ | ⟨hno, _⟩ := conclude_cases (register (Config.tsIn (u.time + k)) (finishing k u))
  · rw [passOver, rxFinish, hover, respond, hresult, ← h.frame]
    exact ⟨⟨h.fault, h.timing, rfl, rfl⟩, rfl, rfl, hregistered, hregTs, rfl, rfl, rfl, hreply, rfl, hevents⟩
  all_goals
    cases hno.symm.trans ((h.isProbe_eq hmine _ k).trans hprobe)

end Sys2Proof.Machine

open Sys2Proof Sys2Proof.Machine

/-- Settles O45: `drive_frame` brings the block to the end of its pass, `AtLastSlot.answered` says what that leaves, and
one low sample in ARB is left of the last slot. -/
theorem probeAnswered : Obligations.ProbeAnswered := by
  intro s m a b c l d0 d1 d2 h hp hb hl hopcode hterm
  have hcount : [d0, d1, d2].length = l.v.toNat := by rw [hl]; rfl
  obtain ⟨u, hexec, hu⟩ := drive_frame h m hcount (by rw [hl]; decide) hp
  have hmine : decide (b.v = s.ownAddr) = true := decide_eq_true hb
  have hprobe : probeFor s (frameOf m a b c l [d0, d1, d2]) = true := by
    simp [probeFor, frameOf, hb, hl, ← hopcode, ← hterm, receivedBytes_getElem]
  have htoken : (frameOf m a b c l [d0, d1, d2]).data[1] = d1.v := receivedBytes_getElem _ 1 (by decide)
  rw [hmine] at hexec hu
  have hover := hu.answered hmine.symm hprobe 8
  have hstop : u.time + 8 = s.time + 785 := congrArg (· + 8) hu.time
  rw [htoken, hstop] at hover
  generalize hv : passOver 8 u = v at hover
  have hlow : v.cnt.toNat + 1 < 10 := by rw [hover.cnt]; decide
  have hlast : drive [false] v = { v with cnt := satInc v.cnt, wdtcnt := 0, time := v.time + 1 } := by
    rw [drive_cons hover.fault, hover.tick_low hlow, drive_nil]
  have hrow : exec (.frame m a b c l [d0, d1, d2]) s =
      .next { v with cnt := satInc v.cnt, wdtcnt := 0, time := v.time + 1 } := by
    rw [← hlast, ← hv]
    exact hexec
  have hcnt : satInc v.cnt = 1 := by rw [hover.cnt]; decide
  refine ⟨_, hrow, hover.fault, hover.phase, hcnt, hover.busOut, hover.respActive, hover.registered, hover.regTs,
    hover.rxResult, hover.txResult, hover.didx, congrArg FrameBuf.mode hover.frame,
    congrArg FrameBuf.master hover.frame, congrArg FrameBuf.slave hover.frame, congrArg FrameBuf.ctrl hover.frame,
    congrArg FrameBuf.len hover.frame, fun i => ?_, congrArg (· + 1) hover.time, hover.events⟩
  show v.frame.data[i] = _
  rw [hover.frame]
  exact replyBytes_getElem s.par d1.v i

end

section
/-! What a row of the host port can do, said once: it writes registers of the host, or it puts out a read result
(46_host_interface.md R171, R172, R184). -/

namespace Sys2Proof.Machine

/-! ## The registers that the host writes -/

/-- s with every field a row of the host port can write as it is in u (46_host_interface.md R171 to R180): the
configuration registers, CTRL, TXB and TX_PENDING, and the record of read results. -/
def withHostFields (u s : State) : State :=
  { s with
    ownAddr := u.ownAddr
    peerAddr := u.peerAddr
    bcastAddr := u.bcastAddr
    ctrlFlags := u.ctrlFlags
    filterEn := u.filterEn
    errlogEn := u.errlogEn
    txb := u.txb
    txPending := u.txPending
    reads := u.reads }

/-- From s to t nothing but registers that the host writes has changed, and nothing was put out. -/
structure WritesRegisters (s t : State) : Prop where
  frame : t = withHostFields t s
  reads : t.reads = s.reads

namespace WritesRegisters

variable {s t u : State}

theorem refl (s : State) : WritesRegisters s s := ⟨rfl, rfl⟩

theorem trans (h : WritesRegisters s t) (h' : WritesRegisters t u) : WritesRegisters s u where
  frame :=
    calc u = withHostFields u t := h'.frame
      _ = withHostFields u (withHostFields t s) := congrArg (withHostFields u) h.frame
      _ = withHostFields u s := rfl
  reads := h'.reads.trans h.reads

/-- A write made after others. -/
theorem then_hostWrite (h : WritesRegisters s t) (a : RegAddr) (v : Reg16) : WritesRegisters s (hostWrite a v t) := by
  refine h.trans ?_
  obtain heq | ⟨_, heq⟩ | ⟨_, _, heq⟩ | ⟨_, heq⟩ | ⟨_, heq⟩ | ⟨_, heq⟩ | ⟨_, heq⟩ | heq :=
    hostWrite_cases a v t <;> rw [heq] <;> exact ⟨rfl, rfl⟩

theorem then_stageBytes (h : WritesRegisters s t) (i : Nat) (ds : List Byte) :
    WritesRegisters s (stageBytes i ds t) := by
  induction ds generalizing i t with
  | nil => exact h
  | cons d ds ih => exact ih (h.then_hostWrite _ _) (i + 1)

end WritesRegisters

theorem configure_writesRegisters (own peer bcast : Addr12) (flags : Nibble) (s : State) :
    WritesRegisters s (configure own peer bcast flags s) :=
  ((((WritesRegisters.refl s).then_hostWrite _ _).then_hostWrite _ _).then_hostWrite _ _).then_hostWrite _ _

theorem stageFrame_writesRegisters (m : Bool) (ma sa : Addr12) (c : Nibble) (ds : List Byte) (s : State) :
    WritesRegisters s (stageFrame m ma sa c ds s) :=
  have addressed : WritesRegisters s _ :=
    (((WritesRegisters.refl s).then_hostWrite 0x10#7 _).then_hostWrite 0x11#7 _).then_hostWrite 0x12#7 (sa.setWidth 16)
  have header : WritesRegisters s _ := addressed.then_hostWrite 0x13#7 (c.setWidth 16)
  ((header.then_stageBytes 0 ds).then_hostWrite _ _).then_hostWrite _ _

/-! ## The rows -/

/-- A row of the host port writes registers, or it puts out one read result and changes nothing else. -/
theorem exec_hostRow_cases (i : Instr) (h : isHostRow i = true) :
    ∃ f, (∀ s, exec i s = live s f) ∧ ∀ s, WritesRegisters s (f s) ∨ ∃ v, f s = putRead v s := by
  cases i
  case bit1 | bit0 | start | ackSlotNotAcked | ackSlotAcked => cases h
  case fieldMode | fieldMaster | fieldSlave | fieldControl | fieldLength | fieldData | frame => cases h
  case rdCtrl | rdStatus | rdTxResult | rdRxResult | rdOwnAddr | rdPeerAddr | rdBcastAddr | rdCtrlFlags | rdRegTsLo |
      rdRegTsHi | rdCmd | rdTxbMode | rdTxbMaster | rdTxbSlave | rdTxbCtrl | rdTxbLen | rdTxbDataI | rdFrMode |
      rdFrMaster | rdFrSlave | rdFrCtrl | rdFrLen | rdFrDataI =>
    exact ⟨_, fun _ => rfl, fun _ => .inr ⟨_, rfl⟩⟩
  case wrRdReserved write a v =>
    refine ⟨_, fun _ => rfl, fun s => ?_⟩
    cases write with
    | true => exact .inl (.refl s)
    | false => exact .inr ⟨0, rfl⟩
  case txgo | ctrlset => exact ⟨_, fun _ => rfl, fun s => .inl ((WritesRegisters.refl s).then_hostWrite _ _)⟩
  case config own peer bcast flags =>
    exact ⟨_, fun _ => rfl, fun s => .inl (configure_writesRegisters own peer bcast flags s)⟩
  case send m ma sa c ds => exact ⟨_, fun _ => rfl, fun s => .inl (stageFrame_writesRegisters m ma sa c ds s)⟩
  all_goals exact ⟨_, fun _ => rfl, fun _ => .inl ⟨rfl, rfl⟩⟩

/-- A row of the host port answers only on a running block; it writes no field but the host's, and puts out at most one
read result, which is then all it does. -/
theorem exec_hostRow_next {i : Instr} {s t : State} (h : isHostRow i = true) (hexec : exec i s = .next t) :
    s.fault = none ∧ (∃ u, t = withHostFields u s) ∧ (t.reads = s.reads ∨ ∃ v, t = putRead v s) := by
  obtain ⟨f, hf, hcases⟩ := exec_hostRow_cases i h
  rw [hf, live_next_iff] at hexec
  obtain ⟨hfault, rfl⟩ := hexec
  refine ⟨hfault, ?_⟩
  obtain hwrite | ⟨v, hread⟩ := hcases s
  · exact ⟨⟨_, hwrite.frame⟩, .inl hwrite.reads⟩
  · exact ⟨⟨putRead v s, hread⟩, .inr ⟨v, hread⟩⟩

end Sys2Proof.Machine

open Sys2Proof Sys2Proof.Machine

/-- Settles O9: what a row of the host port can do (`exec_hostRow_next`), read off field by field. -/
theorem hostOperationsLeaveThePassAlone : Obligations.HostOperationsLeaveThePassAlone := by
  intro i s t hrow hexec
  obtain ⟨hfault, ⟨u, rfl⟩, hreads⟩ := exec_hostRow_next hrow hexec
  exact ⟨rfl, rfl, rfl, rfl, rfl, rfl, rfl, rfl, rfl, rfl, rfl, rfl, rfl, rfl, rfl, rfl, rfl, rfl, rfl, rfl, hfault, rfl,
    rfl, rfl, rfl, rfl, hreads⟩

end

section
/-! The values of the host's registers, as a write stores them and as a read puts them out (46_host_interface.md R171,
R172). -/

namespace Sys2Proof.Machine

/-- The byte store of WR TXB_DATA[i]: an index of five bits is in range (46_host_interface.md R180). -/
theorem setTxbByte_eq (i : BitVec 5) (d : Byte) (s : State) :
    setTxbByte i d s = { s with txb := { s.txb with data := s.txb.data.set i.toNat d i.isLt } } := by
  have hstore : s.txb.data.setIfInBounds i.toNat d = s.txb.data.set i.toNat d i.isLt := by
    ext j hj
    simp [Vector.getElem_setIfInBounds, Vector.getElem_set]
  rw [setTxbByte, hstore]

/-- A flag reads as 0 or 1. -/
theorem setWidth_ofBool_eq_ofNat (b : Bool) : (BitVec.ofBool b).setWidth 16 = BitVec.ofNat 16 b.toNat := by
  cases b <;> rfl

/-- CTRL as a number: FILTER_EN counts 1, ERRLOG_EN 2 (30_encoding.md R75). -/
theorem ctrlWord_eq (s : State) : ctrlWord s = BitVec.ofNat 16 (2 * s.errlogEn.toNat + s.filterEn.toNat) := by
  unfold ctrlWord
  cases s.errlogEn <;> cases s.filterEn <;> rfl

end Sys2Proof.Machine

open Sys2Proof Sys2Proof.Machine

/-- Settles O1: each row is a running block's update (`live_none`); a register of w bits keeps the low w bits of the
value, and a five-bit index names a byte of TXB (`setTxbByte_eq`). -/
theorem hostWritesStoreImplementedBits : Obligations.HostWritesStoreImplementedBits := by
  intro s v h
  have hlow {w : Nat} (hw : w ≤ 16) : v.extractLsb' 0 w = v.setWidth w := (BitVec.setWidth_eq_extractLsb' hw).symm
  rw [hlow (w := 12) (by decide), hlow (w := 8) (by decide), hlow (w := 4) (by decide)]
  unfold exec
  exact ⟨live_none h _, live_none h _, live_none h _, live_none h _, live_none h _, live_none h _, live_none h _,
    live_none h _, live_none h _, live_none h _,
    fun i => (live_none h _).trans (congrArg Host.Outcome.next (setTxbByte_eq i (v.setWidth 8) s))⟩

/-- Settles O2: on a running block (`live_none`) a write to a read-only register is no update, and a reserved address or
CMD puts out 0. -/
theorem readOnlyAndReservedAccess : Obligations.ReadOnlyAndReservedAccess := by
  intro s v h
  unfold exec
  exact ⟨live_none h _, live_none h _, live_none h _, live_none h _, live_none h _, live_none h _, live_none h _,
    live_none h _, live_none h _, live_none h _, fun _ => live_none h _, live_none h _,
    fun _ _ => ⟨live_none h _, live_none h _⟩⟩

/-- Settles O3: each row puts out its register on a running block (`live_none`); the flags read as numbers
(`ctrlWord_eq`, `setWidth_ofBool_eq_ofNat`). -/
theorem hostReadsPutOutTheRegister : Obligations.HostReadsPutOutTheRegister := by
  intro s h
  rw [← ctrlWord_eq, ← setWidth_ofBool_eq_ofNat, ← setWidth_ofBool_eq_ofNat]
  exact ⟨live_none h _, live_none h _, live_none h _, live_none h _, live_none h _, live_none h _, live_none h _,
    live_none h _, live_none h _, live_none h _, live_none h _, live_none h _, live_none h _, live_none h _,
    live_none h _, live_none h _, live_none h _, live_none h _, live_none h _, live_none h _,
    fun _ => ⟨live_none h _, live_none h _⟩⟩

end

section
/-! Several blocks on one line: the level each samples is the OR of every drive (60_exceptions.md R200). -/

namespace Sys2Proof.Machine

/-- The line is high exactly if some node drives it (10_state.md R20). -/
theorem busLevel_eq_true_iff (ext : Bool) (nodes : List State) :
    busLevel ext nodes = true ↔ ext = true ∨ ∃ n ∈ nodes, n.busOut = true := by
  simp [busLevel]

/-- A block on the line adds nothing to a level that counts its own drive already. -/
theorem lineOf_busLevel {n : State} {nodes : List State} (h : n ∈ nodes) (ext : Bool) :
    lineOf (busLevel ext nodes) n = busLevel ext nodes := by
  cases hbus : n.busOut with
  | false => exact lineOf_of_released hbus _
  | true =>
    have hlevel : busLevel ext nodes = true := (busLevel_eq_true_iff ext nodes).mpr (.inr ⟨n, h, hbus⟩)
    rw [hlevel]
    exact Bool.or_true _

end Sys2Proof.Machine

open Sys2Proof Sys2Proof.Machine

/-- Settles O59: a level that is high exactly if some node drives the line is `busLevel` (`busLevel_eq_true_iff`), and a
running block samples it as it is (`lineOf_busLevel`). -/
theorem nodesSampleOneLevel : Obligations.NodesSampleOneLevel := by
  intro nodes ext ts
  refine ⟨busLevel_eq_true_iff ext nodes, fun n hn => lineOf_busLevel hn ext, fun L hL => ?_⟩
  obtain rfl : L = busLevel ext nodes := Bool.eq_iff_iff.mpr (hL.trans (busLevel_eq_true_iff ext nodes).symm)
  refine List.map_congr_left fun n hn => ?_
  cases hfault : n.fault with
  | none => simp [tick, lineOf_busLevel hn]
  | some r => simp

end

section
/-! The error ends of a receive pass: what they report, and a wrong parity symbol (60_exceptions.md R186, R191). -/

namespace Sys2Proof.Machine

/-- The events of an error end (45_frame_receive.md R160, 60_exceptions.md R205). -/
theorem rxEndEvents_of_error {k : RxKind} (h : rxKindIsError k = true) (r : Reg16) (s : State) :
    rxEndEvents k r s.errlogEn = .rxDone r :: errorLog s r := by
  rw [rxEndEvents, h, Bool.true_and, errorLog]

/-- An error end in the element of field f reports it with its index (60_exceptions.md R185). -/
theorem rxEnd_events_of_error {k : RxKind} (h : rxKindIsError k = true) (f : FieldCode) (i : Byte) (s : State) :
    (rxEnd k f (errIndex f i) s).events = s.events ++ stamped s.time
      (.rxDone (errorCode (rxKindNum k).toNat f i) :: errorLog s (errorCode (rxKindNum k).toNat f i)) := by
  rw [rxEnd_events, resultWord_errIndex, rxEndEvents_of_error h]

/-- The first low sample of a parity symbol delivers its bit (41_bitcodec.md R104). -/
theorem armRxMeas_low_of_par {s : State} {f : FieldCode} (helem : s.elem = .el f .par) (ts : Stamp) :
    armRxMeas false ts s = ifContinues (deliverPar f (classify s.par s.cnt.toNat) s)
      (afterBit (classify s.par s.cnt.toNat) s.cnt.toNat) := by
  rw [← rxDeliver_of_par helem _ ts]
  simp [armRxMeas, helem]

/-- A wrong parity symbol ends the pass (45_frame_receive.md R158). -/
theorem armRxMeas_of_wrong_parity {s : State} {f : FieldCode} (helem : s.elem = .el f .par)
    (hwrong : classify s.par s.cnt.toNat ≠ s.parity) (ts : Stamp) : armRxMeas false ts s = parityError f s := by
  rw [armRxMeas_low_of_par helem, deliverPar, if_pos hwrong]
  rfl

end Sys2Proof.Machine

open Sys2Proof Sys2Proof.Machine

/-- Settles O43: the tick is `parityError` of the state (`armRxMeas_of_wrong_parity`), an error end of the pass. -/
theorem parityErrorEndsThePass : Obligations.ParityErrorEndsThePass := by
  intro s f ts hfault hphase hbus helem hwrong
  have htick : tick false ts s = { parityError f { s with wdtcnt := 0 } with time := s.time + 1 } := by
    rw [tick_rxMeas hphase, lineOf_of_released hbus, armRxMeas_of_wrong_parity (s := { s with wdtcnt := 0 }) helem hwrong]
  rw [htick]
  exact ⟨_, rfl, hfault, rfl, rfl, rfl, resultWord_errIndex _ f s.didx, rfl, rfl, rfl,
    rxEnd_events_of_error (k := .parityError) rfl f s.didx _⟩

end

section
/-! The waits that EDGE_TIMEOUT bounds: every sample that keeps one going is counted, and the one that reaches the bound
ends the pass (60_exceptions.md R190). -/

namespace Sys2Proof.Machine

/-- The count that has come to EDGE_TIMEOUT (70_reset_and_hazards.md R225). -/
theorem timedOut_eq_decide {p : Params} {n : Nat} (hedge : p.edgeTimeout = some n) (hstart : p.tStart ≤ n) (k : Nat) :
    timedOut p k = decide (n ≤ k) := by
  rw [timedOut, hedge, ← Bool.decide_and]
  exact decide_eq_decide.mpr ⟨And.right, fun h => ⟨Nat.le_trans hstart h, h⟩⟩

theorem satInc_toNat_of_lt {c : BitVec 16} (h : c.toNat + 1 < 65536) : (satInc c).toNat = c.toNat + 1 := by
  rw [satInc_toNat]
  omega

/-! ## The receiver's waits -/

/-- A receiver with the line released waits in the element of field f for a sample that is not e: for the end of the start
candidate, for the next pulse, for that pulse's end (42_start_arbitration.md R113, 41_bitcodec.md R103, R104). -/
inductive AwaitsOther (s : State) : FieldCode → Bool → Prop where
  | startEnd (hbus : s.busOut = false) (hphase : s.phase = .startMeas) : AwaitsOther s .start true
  | pulse {f : FieldCode} {k : Kind} (hbus : s.busOut = false) (hphase : s.phase = .rxWaithigh)
      (helem : s.elem = .el f k) : AwaitsOther s f false
  | pulseEnd {f : FieldCode} {k : Kind} (hbus : s.busOut = false) (hphase : s.phase = .rxMeas)
      (helem : s.elem = .el f k) : AwaitsOther s f true

/-- The receiver that has counted one more sample. -/
def sampleCounted (s : State) : State := { s with cnt := satInc s.cnt, wdtcnt := 0, time := s.time + 1 }

/-- The wait of field f ended in the m-th tick from s on. -/
def timedOutAfter (m : Nat) (f : FieldCode) (s : State) : State :=
  { rxEnd .timeout f (errIndex f s.didx) { s with wdtcnt := 0, time := s.time + m - 1 } with time := s.time + m }

theorem timedOutAfter_succ (m : Nat) (f : FieldCode) (s : State) :
    timedOutAfter (m + 1) f (sampleCounted s) = timedOutAfter (m + 1 + 1) f s := by
  have htime : s.time + 1 + (m + 1) = s.time + (m + 1 + 1) := by omega
  rw [timedOutAfter, sampleCounted, htime]
  rfl

namespace AwaitsOther

variable {s : State} {f : FieldCode} {e : Bool} (h : AwaitsOther s f e)

include h

theorem of_counted : AwaitsOther (sampleCounted s) f e := by
  cases h with
  | startEnd hbus hphase => exact .startEnd hbus hphase
  | pulse hbus hphase helem => exact .pulse hbus hphase helem
  | pulseEnd hbus hphase helem => exact .pulseEnd hbus hphase helem

/-- Another sample of what the line shows is counted, or ends the wait (60_exceptions.md R190). -/
theorem tick_eq (ts : Stamp) :
    tick e ts s = { countOrTimeout f { s with wdtcnt := 0 } with time := s.time + 1 } := by
  cases h with
  | startEnd hbus hphase =>
    rw [tick_of_ne_idle (by simp [hphase]), lineOf_of_released hbus]
    simp [arm, hphase, armStartMeas]
  | pulse hbus hphase helem =>
    rw [tick_rxWaithigh hphase, lineOf_of_released hbus]
    simp [armRxWaithigh, helem]
  | pulseEnd hbus hphase helem =>
    rw [tick_rxMeas hphase, lineOf_of_released hbus]
    simp [armRxMeas, helem]

variable {n : Nat} (hedge : s.par.edgeTimeout = some n) (hstart : s.par.tStart ≤ n) (hn : n < 65536)

include hedge hstart hn

theorem tick_more (hcnt : s.cnt.toNat + 1 < n) (ts : Stamp) : tick e ts s = sampleCounted s := by
  have hinc := satInc_toNat_of_lt (Nat.lt_trans hcnt hn)
  have hwait : timedOut s.par (satInc s.cnt).toNat = false := by
    rw [timedOut_eq_decide hedge hstart, hinc]
    exact decide_eq_false (Nat.not_le_of_lt hcnt)
  rw [h.tick_eq, countOrTimeout, hwait]
  rfl

theorem tick_last (hcnt : s.cnt.toNat + 1 = n) (ts : Stamp) : tick e ts s = timedOutAfter 1 f s := by
  have hinc := satInc_toNat_of_lt (hcnt ▸ hn)
  have hover : timedOut s.par (satInc s.cnt).toNat = true := by
    rw [timedOut_eq_decide hedge hstart, hinc]
    exact decide_eq_true (Nat.le_of_eq hcnt.symm)
  rw [h.tick_eq, countOrTimeout, hover]
  rfl

/-- The wait ends with the sample that brings the count to EDGE_TIMEOUT. -/
theorem drive_timeout {m : Nat} (hfault : s.fault = none) (hcnt : s.cnt.toNat + (m + 1) = n) :
    drive (List.replicate (m + 1) e) s = timedOutAfter (m + 1) f s := by
  induction m generalizing s with
  | zero => rw [List.replicate_one, drive_cons hfault, h.tick_last hedge hstart hn hcnt, drive_nil]
  | succ m ih =>
    have hmore : s.cnt.toNat + 1 < n := by omega
    have hinc : (sampleCounted s).cnt.toNat = s.cnt.toNat + 1 := satInc_toNat_of_lt (Nat.lt_trans hmore hn)
    rw [List.replicate_succ, drive_cons hfault, h.tick_more hedge hstart hn hmore,
      ih h.of_counted hedge hstart hfault (by omega), timedOutAfter_succ]

end AwaitsOther

/-- What a timed-out receiver reports (60_exceptions.md R185, R190, R205). -/
theorem timedOutAfter_events (m : Nat) (f : FieldCode) (s : State) :
    (timedOutAfter m f s).events = s.events ++ stamped (s.time + m - 1)
      (.rxDone (errorCode 6 f s.didx) :: errorLog s (errorCode 6 f s.didx)) :=
  rxEnd_events_of_error (k := .timeout) rfl f s.didx { s with wdtcnt := 0, time := s.time + m - 1 }

theorem timedOutAfter_rxResult (m : Nat) (f : FieldCode) (s : State) :
    (timedOutAfter m f s).rxResult = errorCode 6 f s.didx := resultWord_errIndex _ f s.didx

/-- The events of an error are all a pass's own. -/
theorem passEvents_rxDone_errorLog (t : Nat) (r r' : Reg16) (s : State) :
    passEvents (stamped t (.rxDone r :: errorLog s r')) = stamped t (.rxDone r :: errorLog s r') := by
  cases herr : s.errlogEn <;> simp [passEvents, errorLog, herr]

/-- A line held high from IDLE on is a start candidate without an end. -/
theorem drive_listening_timeout {s : State} (h : Listening s) {n : Nat} (hedge : s.par.edgeTimeout = some n)
    (hlow : 47 ≤ n) (hn : n < 65536) :
    drive (List.replicate n true) s = timedOutAfter n .start { watchdog s with phase := .startMeas, cnt := sat16 1 } := by
  obtain ⟨hfault, htiming, _, hbus, _⟩ := id h
  obtain ⟨_, _, _, _, _, hstart, _⟩ := htiming
  obtain ⟨m, rfl⟩ : ∃ m, n = m + 1 + 1 := ⟨n - 2, by omega⟩
  have hwait : AwaitsOther { watchdog s with phase := .startMeas, cnt := sat16 1, time := s.time + 1 } .start true :=
    .startEnd hbus rfl
  have hcnt : (sat16 1).toNat + (m + 1) = m + 1 + 1 := Nat.add_comm 1 (m + 1)
  rw [List.replicate_succ, drive_cons hfault, tick_listening_high h,
    hwait.drive_timeout hedge (Nat.le_trans (Nat.le_of_eq hstart) hlow) hn hfault hcnt, timedOutAfter,
    Nat.add_assoc s.time, Nat.add_comm 1]
  rfl

/-! ## The sender's wait -/

/-- A sender that measures a slot in the element of field f (43_acknowledge.md R123, R124). -/
structure MeasuringSlot (f : FieldCode) (s : State) : Prop where
  fault : s.fault = none
  phase : s.phase = .txAck
  meas : s.meas = true
  elem : ∃ k, s.elem = .el f k

/-- The sender that has counted one more high sample of the slot it measures (43_acknowledge.md R124). -/
def slotCounted (s : State) : State :=
  { sampleCounted s with busOut := decide (s.cnt.toNat + 1 < s.par.t1High) }

/-- The slot of field f given up in the m-th tick from s on. -/
def slotTimedOutAfter (m : Nat) (f : FieldCode) (s : State) : State :=
  { txEnd .timeout f (errIndex f s.didx) (Config.tsIn (s.time + m - 1))
      { s with wdtcnt := 0, time := s.time + m - 1 } with
    time := s.time + m }

theorem slotTimedOutAfter_succ (m : Nat) (f : FieldCode) (s : State) :
    slotTimedOutAfter (m + 1) f (slotCounted s) = slotTimedOutAfter (m + 1 + 1) f s := by
  have htime : s.time + 1 + (m + 1) = s.time + (m + 1 + 1) := by omega
  rw [slotTimedOutAfter, slotCounted, sampleCounted, htime]
  rfl

namespace MeasuringSlot

variable {s : State} {f : FieldCode} (h : MeasuringSlot f s)

include h

/-- A high sample of a slot still measured is counted, or ends the wait (43_acknowledge.md R124, 60_exceptions.md
R190). -/
theorem tick_high (ts : Stamp) :
    tick true ts s = { (if timedOut s.par (s.cnt.toNat + 1) then
        txEnd .timeout f (errIndex f s.didx) ts { s with wdtcnt := 0 } else slotCounted s) with
      time := s.time + 1 } := by
  obtain ⟨k, helem⟩ := h.elem
  have hhigh : lineOf true s = true := Bool.or_true _
  rw [tick_txAck h.phase, hhigh]
  cases hwait : timedOut s.par (s.cnt.toNat + 1) <;>
    simp [armTxAck, helem, h.meas, hwait, measureSlot, slotTick, slotCounted, sampleCounted]

theorem of_counted : MeasuringSlot f (slotCounted s) := ⟨h.fault, h.phase, h.meas, h.elem⟩

variable {n : Nat} (hedge : s.par.edgeTimeout = some n) (hstart : s.par.tStart ≤ n) (hn : n < 65536)

include hedge hstart hn

/-- The slot is given up with the high sample that brings the count to EDGE_TIMEOUT. -/
theorem drive_timeout {m : Nat} (hcnt : s.cnt.toNat + (m + 1) = n) :
    drive (List.replicate (m + 1) true) s = slotTimedOutAfter (m + 1) f s := by
  induction m generalizing s with
  | zero =>
    have hover : timedOut s.par (s.cnt.toNat + 1) = true := by
      rw [timedOut_eq_decide hedge hstart]
      exact decide_eq_true (Nat.le_of_eq hcnt.symm)
    rw [List.replicate_one, drive_cons h.fault, h.tick_high, hover, drive_nil]
    rfl
  | succ m ih =>
    have hmore : s.cnt.toNat + 1 < n := by omega
    have hwait : timedOut s.par (s.cnt.toNat + 1) = false := by
      rw [timedOut_eq_decide hedge hstart]
      exact decide_eq_false (Nat.not_le_of_lt hmore)
    have hinc : (slotCounted s).cnt.toNat = s.cnt.toNat + 1 := satInc_toNat_of_lt (Nat.lt_trans hmore hn)
    have htick : tick true (Config.tsIn s.time) s = slotCounted s := by
      rw [h.tick_high, hwait]
      rfl
    rw [List.replicate_succ, drive_cons h.fault, htick, ih h.of_counted hedge hstart (by omega),
      slotTimedOutAfter_succ]

end MeasuringSlot

theorem slotTimedOutAfter_txResult (m : Nat) (f : FieldCode) (s : State) :
    (slotTimedOutAfter m f s).txResult = errorCode 3 f s.didx := resultWord_errIndex _ f s.didx

/-- What a sender that gives up a slot reports (60_exceptions.md R185, R190, R205). -/
theorem slotTimedOutAfter_events (m : Nat) (f : FieldCode) (s : State) :
    (slotTimedOutAfter m f s).events = s.events ++ stamped (s.time + m - 1)
      (.txDone (errorCode 3 f s.didx) :: errorLog s (errorCode 3 f s.didx)) := by
  rw [← slotTimedOutAfter_txResult m f s]
  rfl

end Sys2Proof.Machine

open Sys2Proof Sys2Proof.Machine

/-- Settles O46: a receiver's wait is counted up to its bound (`AwaitsOther.drive_timeout`; from IDLE
`drive_listening_timeout`), and so is a sender's (`MeasuringSlot.drive_timeout`). -/
theorem boundedWaitsTimeOut : Obligations.BoundedWaitsTimeOut := by
  refine ⟨fun s n hlisten hedge hlow hn => ?_, fun s f k n hfault htiming hedge hlow hn helem hbus => ?_⟩
  · obtain ⟨hfault, _⟩ := id hlisten
    refine ⟨_, drive_listening_timeout hlisten hedge hlow hn, hfault, rfl, ?_, rfl, rfl, ?_⟩
    · exact timedOutAfter_rxResult n .start _
    · rw [timedOutAfter_events, passEvents_append, passEvents_rxDone_errorLog]
      exact congrArg (· ++ _) (passEvents_watchdog s)
  · obtain ⟨_, _, _, _, _, hstart, _⟩ := htiming
    have hbound : s.par.tStart ≤ n := Nat.le_trans (Nat.le_of_eq hstart) hlow
    obtain ⟨m, rfl⟩ : ∃ m, n = m + 1 + 1 := ⟨n - 2, by omega⟩
    refine ⟨fun hphase hcnt => ?_, fun hphase hcnt => ?_, ?_⟩
    · have hwait : AwaitsOther s f false := .pulse hbus hphase helem
      exact ⟨_, hwait.drive_timeout hedge hbound hn hfault (by simp [hcnt]), rfl, timedOutAfter_rxResult _ f s,
        timedOutAfter_events _ f s⟩
    · have hwait : AwaitsOther s f true := .pulseEnd hbus hphase helem
      exact ⟨_, hwait.drive_timeout (m := m) hedge hbound hn hfault (by simp [hcnt]; omega), rfl,
        timedOutAfter_rxResult _ f s, timedOutAfter_events _ f s⟩
    · have hslot : MeasuringSlot f (openSlot s) := ⟨hfault, rfl, rfl, k, helem⟩
      exact ⟨_, hslot.drive_timeout hedge hbound hn (Nat.zero_add _), rfl, slotTimedOutAfter_txResult _ f _, rfl,
        slotTimedOutAfter_events _ f (openSlot s)⟩

end

section
/-! Where LengthOverflow is raised (60_exceptions.md R193): of the transmit pass by StartHostTx alone, of the receive pass
by the parity symbol of LENGTH alone. One lemma per operation, in the order of Sys2Proof/Machine/. -/

namespace Sys2Proof.Machine

/-- From s to t the model has not stopped with LengthOverflow. -/
def NoOverflow (s t : State) : Prop := t.fault = some .lengthOverflow → s.fault = some .lengthOverflow

theorem NoOverflow.trans {s t u : State} (h : NoOverflow s t) (h' : NoOverflow t u) : NoOverflow s u := h ∘ h'

/-- An operation that leaves FAULT alone. -/
theorem NoOverflow.of_eq {s t : State} (h : t.fault = s.fault) : NoOverflow s t := fun ht => h ▸ ht

variable (s : State)

theorem raise_noRule_noOverflow : NoOverflow s (raise .noRule s) := nofun

/-! ## The receive pass -/

theorem conclude_fault : (conclude s).fault = s.fault := by
  obtain ⟨_, h⟩ | ⟨_, _, h⟩ | ⟨_, _, h⟩ := conclude_cases s <;> rw [h] <;> rfl

theorem enterElem_fault (e : Elem) (d : Byte) : (enterElem e d s).fault = s.fault := by
  obtain ⟨_, _, _, h, _⟩ := enterElem_eq e d s
  rw [h]

theorem advanceRx_noOverflow : NoOverflow s (advanceRx s).1 := by
  unfold advanceRx
  split
  · exact .of_eq (enterElem_fault s _ _)
  · exact raise_noRule_noOverflow s

theorem ackDone_noOverflow (ts : Stamp) : NoOverflow s (ackDone ts s).1 := by
  obtain ⟨_, h⟩ | ⟨d, _, h⟩ | ⟨_, _, _, _, h⟩ := ackDone_cases ts s <;> rw [h]
  · exact raise_noRule_noOverflow s
  · exact .of_eq (conclude_fault (register ts { s with elem := .fin, didx := d }))
  · exact .of_eq (enterElem_fault s _ _)

theorem deliverVal_noOverflow (f : FieldCode) (b : Bool) : NoOverflow s (deliverVal f b s).1 := by
  unfold deliverVal
  split
  · split
    · next fr _ => exact advanceRx_noOverflow { accumulateBit b s with frame := fr }
    · exact raise_noRule_noOverflow (accumulateBit b s)
  · exact .of_eq rfl

theorem countOrTimeout_fault (f : FieldCode) : (countOrTimeout f s).fault = s.fault := by
  unfold countOrTimeout
  split <;> rfl

theorem armStartMeas_fault (l : Bool) : (armStartMeas l s).fault = s.fault := by
  unfold armStartMeas
  split
  · exact countOrTimeout_fault s _
  · split <;> rfl

theorem armRxWaithigh_noOverflow (l : Bool) : NoOverflow s (armRxWaithigh l s) := by
  unfold armRxWaithigh
  split
  · exact raise_noRule_noOverflow s
  · split
    · split <;> exact .of_eq rfl
    · exact .of_eq (countOrTimeout_fault s _)

theorem afterBit_fault (b : Bool) (w : Nat) : (afterBit b w s).fault = s.fault := by
  unfold afterBit
  split <;> rfl

theorem armRxRemain_fault : (armRxRemain s).fault = s.fault := by
  unfold armRxRemain
  split <;> rfl

/-- What follows a delivered symbol leaves FAULT as the delivery left it. -/
theorem ifContinues_fault {r : State × Bool} {next : State → State} (hnext : ∀ u, (next u).fault = u.fault) :
    (ifContinues r next).fault = r.1.fault := by
  unfold ifContinues
  split
  · exact hnext _
  · rfl

theorem armRxAckdrive_noOverflow (ts : Stamp) : NoOverflow s (armRxAckdrive ts s) := by
  unfold armRxAckdrive
  split
  · exact .of_eq rfl
  · exact .trans (ackDone_noOverflow { s with cnt := satInc s.cnt, busOut := false } ts)
      (.of_eq (ifContinues_fault fun _ => rfl))

/-! ## The transmit pass -/

theorem encodeWord_noOverflow (f : FieldCode) : NoOverflow s (encodeWord f s) := by
  unfold encodeWord
  split
  · exact .of_eq rfl
  · exact raise_noRule_noOverflow s

theorem beginTxSymbol_noOverflow (e : Elem) (ts : Stamp) : NoOverflow s (beginTxSymbol e ts s) := by
  unfold beginTxSymbol
  split
  · exact .of_eq rfl
  · exact encodeWord_noOverflow { s with elem := _ } _
  · exact .of_eq rfl
  · exact raise_noRule_noOverflow { s with elem := _ }
  · exact .of_eq rfl

theorem beginAck_noOverflow (ts : Stamp) : NoOverflow s (beginAck ts s) := by
  obtain h | h | ⟨e, d, _, h⟩ := beginAck_cases ts s <;> rw [h]
  · exact .of_eq rfl
  · exact raise_noRule_noOverflow s
  · exact beginTxSymbol_noOverflow { s with didx := d } e ts

theorem beginTxElem_noOverflow (e : Elem) (ts : Stamp) : NoOverflow s (beginTxElem e ts s) := by
  unfold beginTxElem
  split
  · exact beginAck_noOverflow { s with elem := _ } ts
  all_goals exact beginTxSymbol_noOverflow s _ ts

theorem advanceTx_noOverflow (ts : Stamp) : NoOverflow s (advanceTx ts s) := by
  obtain ⟨_, h⟩ | ⟨e, d, _, h⟩ := advanceTx_cases ts s <;> rw [h]
  · exact raise_noRule_noOverflow s
  · exact beginTxElem_noOverflow { s with didx := d } e ts

theorem armArb_fault (l : Bool) : (armArb l s).fault = s.fault := by
  unfold armArb
  split
  · rfl
  · split <;> rfl

theorem armTxBit_noOverflow (ts : Stamp) : NoOverflow s (armTxBit ts s) := by
  unfold armTxBit txElemDone
  split
  · exact .of_eq rfl
  · split
    · exact .of_eq rfl
    · exact advanceTx_noOverflow s ts

theorem slotTick_noOverflow (f : FieldCode) (ts : Stamp) : NoOverflow s (slotTick f ts s) := by
  unfold slotTick
  split
  · split
    · exact advanceTx_noOverflow s ts
    · exact .of_eq rfl
  · exact .of_eq rfl

theorem armTxAck_noOverflow (l : Bool) (ts : Stamp) : NoOverflow s (armTxAck l ts s) := by
  unfold armTxAck
  split
  · exact raise_noRule_noOverflow s
  · split
    · exact .of_eq rfl
    · obtain ⟨m, a, h⟩ := measureSlot_eq (s := s) l
      rw [h]
      exact slotTick_noOverflow { s with meas := m, acked := a } _ ts

/-! ## The two places -/

/-- The places of 60_exceptions.md R193, by the phase: a pending transmit taken in IDLE, and the low sample of LENGTH's
right parity symbol, each with a length above 32. -/
def OverflowAt (l : Bool) (s : State) : Prop :=
  (s.phase = .idle ∧ s.txPending = true ∧ maxData < s.txb.len.toNat) ∨
    (s.phase = .rxMeas ∧ l = false ∧ s.elem = .el .length .par ∧ classify s.par s.cnt.toNat = s.parity ∧
      maxData < s.frame.len.toNat)

variable {s} (hfault : s.fault = none)

include hfault

theorem armIdle_overflow_iff (l : Bool) :
    (armIdle l s).fault = some .lengthOverflow ↔ s.txPending = true ∧ maxData < s.txb.len.toNat := by
  cases hpending : s.txPending with
  | false =>
    have hkept : (armIdle l s).fault = none := by
      cases l <;> simpa [armIdle, hpending] using hfault
    simp [hkept]
  | true =>
    have hstart : armIdle l s = startHostTx { s with txPending := false } := by simp [armIdle, hpending]
    obtain ⟨hover, h⟩ | ⟨hfits, h⟩ := startHostTx_cases { s with txPending := false } <;> rw [hstart, h]
    · simpa using hover
    · simpa [hfault] using hfits

theorem deliverPar_overflow_iff (f : FieldCode) (b : Bool) :
    (deliverPar f b s).1.fault = some .lengthOverflow ↔ b = s.parity ∧ f = .length ∧ maxData < s.frame.len.toNat := by
  obtain ⟨hwrong, h⟩ | ⟨hright, hf, hover, h⟩ | ⟨_, hfits, h⟩ := deliverPar_cases f b s <;> rw [h]
  · simp [parityError, hfault, hwrong]
  · simp [hright, hf, hover]
  · have hkept : (advanceRx (setForme f s)).1.fault ≠ some .lengthOverflow := fun h => by
      simpa [hfault] using advanceRx_noOverflow (setForme f s) h
    exact iff_of_false hkept fun h => hfits h.2

theorem armRxMeas_overflow_iff (l : Bool) (ts : Stamp) :
    (armRxMeas l ts s).fault = some .lengthOverflow ↔
      l = false ∧ s.elem = .el .length .par ∧ classify s.par s.cnt.toNat = s.parity ∧
        maxData < s.frame.len.toNat := by
  have hnone {t : State} (h : NoOverflow s t) : t.fault ≠ some .lengthOverflow := fun ht => by
    simpa [hfault] using h ht
  cases helem : s.elem with
  | fin =>
    have hstop : armRxMeas l ts s = raise .noRule s := by simp [armRxMeas, helem]
    simp [hstop]
  | el f k =>
    cases l with
    | true =>
      have hcount : armRxMeas true ts s = countOrTimeout f s := by simp [armRxMeas, helem]
      simp [hcount, countOrTimeout_fault, hfault]
    | false =>
      have hlow : (armRxMeas false ts s).fault = (rxDeliver (classify s.par s.cnt.toNat) ts s).1.fault := by
        simp [armRxMeas, helem, ifContinues_fault (afterBit_fault · _ _)]
      rw [hlow]
      cases k with
      | val =>
        rw [rxDeliver_of_val helem]
        exact iff_of_false (hnone (deliverVal_noOverflow s f _)) (by simp)
      | par =>
        rw [rxDeliver_of_par helem, deliverPar_overflow_iff hfault]
        simp [and_left_comm]
      | ack =>
        rw [rxDeliver_of_ack helem]
        exact iff_of_false (hnone (ackDone_noOverflow s ts)) (by simp)

/-- Of all arms, only IDLE's and RX_MEAS' stop the model with LengthOverflow (60_exceptions.md R193). -/
theorem arm_overflow_iff (l : Bool) (ts : Stamp) :
    (arm l ts s).fault = some .lengthOverflow ↔ OverflowAt l s := by
  have hnone (hidle : s.phase ≠ .idle) (hmeas : s.phase ≠ .rxMeas) (h : NoOverflow s (arm l ts s)) :
      (arm l ts s).fault = some .lengthOverflow ↔ OverflowAt l s :=
    iff_of_false (fun ht => by simpa [hfault] using h ht) (by simp [OverflowAt, hidle, hmeas])
  cases hphase : s.phase
  case idle => simp [arm, OverflowAt, hphase, armIdle_overflow_iff hfault]
  case rxMeas => simp [arm, OverflowAt, hphase, armRxMeas_overflow_iff hfault]
  all_goals
    refine hnone (by simp [hphase]) (by simp [hphase]) ?_
    rw [arm, hphase]
  case startMeas => exact .of_eq (armStartMeas_fault s l)
  case rxWaithigh => exact armRxWaithigh_noOverflow s l
  case rxRemain => exact .of_eq (armRxRemain_fault s)
  case rxAckdrive => exact armRxAckdrive_noOverflow s ts
  case arb => exact .of_eq (armArb_fault s l)
  case txBit => exact armTxBit_noOverflow s ts
  case txAck => exact armTxAck_noOverflow s l ts

end Sys2Proof.Machine

open Sys2Proof Sys2Proof.Machine

/-- Settles O19: the tick faults where its arm does (`arm_overflow_iff`); its sample is low exactly if neither the block
nor another node drives the line. -/
theorem lengthOverflowExactlyWhereListed : Obligations.LengthOverflowExactlyWhereListed := by
  intro s ext ts hfault
  have harm : (tick ext ts s).fault = some .lengthOverflow ↔ OverflowAt (lineOf ext s) (watchdog s) :=
    arm_overflow_iff (s := watchdog s) hfault (lineOf ext s) ts
  have hlow : lineOf ext s = false ↔ s.busOut = false ∧ ext = false := Bool.or_eq_false_iff
  rw [harm, OverflowAt, hlow, and_assoc]
  exact Iff.rfl

end

section
/-! The two kinds of scheduled tick: the reset tick and Step (70_reset_and_hazards.md R206). -/

namespace Sys2Proof.Machine

theorem nextTick_of_rst {r : TickIn} (h : r.rst = true) (s : State) : nextTick r s = resetTick s :=
  if_pos h

theorem nextTick_of_not_rst {r : TickIn} (h : r.rst = false) (s : State) :
    nextTick r s = fullStep r.ext r.ops r.ts s := by
  simp [nextTick, h]

/-- FAULT, which a reset tick keeps, has its reset value on a running block (10_state.md R42). -/
theorem resetTick_of_running {s : State} (hfault : s.fault = none) :
    resetTick s = { State.resetWith s.par with
      time := s.time + 1
      feed := s.feed
      events := s.events
      reads := s.reads.filter fun x => x.1 ≠ s.time } := by
  rw [resetTick, hfault]
  rfl

end Sys2Proof.Machine

open Sys2Proof Sys2Proof.Machine

/-- Settles O16: a scheduled tick reaches a running block as `nextTick` (`step_cycle`), which rst decides; a stopped
model takes no step (`step_of_fault`). -/
theorem resetTickGivesTheResetState : Obligations.ResetTickGivesTheResetState := by
  intro s r rest hfeed
  refine ⟨fun hfault hrst => ?reset, fun hfault hrst => ?step, fun _ hfault => step_of_fault hfault⟩
  case reset =>
    rw [step_cycle hfault hfeed, nextTick_of_rst hrst, resetTick_of_running (s := { s with feed := rest }) hfault]
  case step => rw [step_cycle hfault hfeed, nextTick_of_not_rst hrst]

end

section
/-! The address space of the host port, said once: each address is a byte of TXB or FRAME, a reserved one, or a register
with a name of its own (30_encoding.md R75, R78). -/

namespace Sys2Proof

/-! ## Addresses -/

/-- The addresses of the registers that have a row of their own (30_encoding.md R75). -/
def namedAddrs : List RegAddr :=
  [0x00, 0x01, 0x02, 0x03, 0x04, 0x05, 0x06, 0x07, 0x08, 0x09, 0x0F, 0x10, 0x11, 0x12, 0x13, 0x14, 0x40, 0x41, 0x42,
    0x43, 0x44]

theorem regAddr_cases (a : RegAddr) :
    (∃ i, a = txbDataAddr i) ∨ (∃ i, a = frDataAddr i) ∨ reservedAddr a = true ∨ a ∈ namedAddrs := by
  revert a
  decide

/-- A reserved address is none of the others. -/
theorem reservedAddr_spec (a : RegAddr) (h : reservedAddr a = true) :
    a.extractLsb' 5 2 ≠ 1#2 ∧ a.extractLsb' 5 2 ≠ 3#2 ∧ a ∉ namedAddrs := by
  revert a
  decide

theorem txbDataAddr_top (i : BitVec 5) : (txbDataAddr i).extractLsb' 5 2 = 1#2 := by
  revert i
  decide

theorem frDataAddr_top (i : BitVec 5) : (frDataAddr i).extractLsb' 5 2 = 3#2 := by
  revert i
  decide

@[simp] theorem dataIndex_txbDataAddr (i : BitVec 5) : dataIndex (txbDataAddr i) = i := by
  revert i
  decide

@[simp] theorem dataIndex_frDataAddr (i : BitVec 5) : dataIndex (frDataAddr i) = i := by
  revert i
  decide

/-! ## The row of an address -/

section

variable (v : Reg16)

theorem decodeWr_txbDataAddr (i : BitVec 5) : decodeWr (txbDataAddr i) v = .wrTxbDataI i v := by
  rw [decodeWr, if_pos (txbDataAddr_top i), dataIndex_txbDataAddr]

theorem decodeRd_txbDataAddr (i : BitVec 5) : decodeRd (txbDataAddr i) v = .rdTxbDataI i := by
  rw [decodeRd, if_pos (txbDataAddr_top i), dataIndex_txbDataAddr]

theorem decodeWr_frDataAddr (i : BitVec 5) : decodeWr (frDataAddr i) v = .wrFrDataI i v := by
  rw [decodeWr, frDataAddr_top, if_neg (by decide), if_pos rfl, dataIndex_frDataAddr]

theorem decodeRd_frDataAddr (i : BitVec 5) : decodeRd (frDataAddr i) v = .rdFrDataI i := by
  rw [decodeRd, frDataAddr_top, if_neg (by decide), if_pos rfl, dataIndex_frDataAddr]

theorem decodeWr_reserved {a : RegAddr} (h : reservedAddr a = true) : decodeWr a v = .wrRdReserved true a v := by
  obtain ⟨htx, hfr, hnamed⟩ := reservedAddr_spec a h
  simp [namedAddrs] at hnamed
  simp [decodeWr, htx, hfr, hnamed]

theorem decodeRd_reserved {a : RegAddr} (h : reservedAddr a = true) : decodeRd a v = .wrRdReserved false a v := by
  obtain ⟨htx, hfr, hnamed⟩ := reservedAddr_spec a h
  simp [namedAddrs] at hnamed
  simp [decodeRd, htx, hfr, hnamed]

end

/-! ## Words -/

theorem decodeHost_wr (a : RegAddr) (v : Reg16) : decodeHost (hostWord true a v) = decodeWr a v := by
  simp [decodeHost]

theorem decodeHost_rd (a : RegAddr) (v : Reg16) : decodeHost (hostWord false a v) = decodeRd a v := by
  simp [decodeHost]

/-- A host operation word is made of its three parts. -/
theorem hostWord_parts (w : HostWord) : hostWord (hostDir w) (hostAddr w) (hostData w) = w := by
  apply BitVec.eq_of_getLsbD_eq
  intro i hi
  simp only [hostWord, hostDir, hostAddr, hostData, BitVec.getLsbD_append, BitVec.getLsbD_extractLsb',
    BitVec.getLsbD_ofBool]
  obtain hdata | ⟨hge, haddr⟩ | rfl : i < 16 ∨ (16 ≤ i ∧ i - 16 < 7) ∨ i = 23 := by omega
  · simp [hdata]
  · simp [haddr, Nat.not_lt.mpr hge, Nat.add_sub_of_le hge]
  · simp

theorem decode_host_wr (a : RegAddr) (v : Reg16) : decode (.host (hostWord true a v)) = .ok (decodeWr a v) :=
  congrArg Except.ok (decodeHost_wr a v)

theorem decode_host_rd (a : RegAddr) (v : Reg16) : decode (.host (hostWord false a v)) = .ok (decodeRd a v) :=
  congrArg Except.ok (decodeHost_rd a v)

/-! ## Encoding the row of an address -/

section

variable (a : RegAddr) (v : Reg16)

theorem wellFormed_decodeWr : WellFormed (decodeWr a v) = true := by
  obtain ⟨i, rfl⟩ | ⟨i, rfl⟩ | h | h := regAddr_cases a
  · rw [decodeWr_txbDataAddr]; rfl
  · rw [decodeWr_frDataAddr]; rfl
  · rw [decodeWr_reserved v h]; exact h
  · fin_cases h <;> rfl

theorem wellFormed_decodeRd : WellFormed (decodeRd a v) = true := by
  obtain ⟨i, rfl⟩ | ⟨i, rfl⟩ | h | h := regAddr_cases a
  · rw [decodeRd_txbDataAddr]; rfl
  · rw [decodeRd_frDataAddr]; rfl
  · rw [decodeRd_reserved v h]; exact h
  · fin_cases h <;> rfl

/-- The row of a write encodes as that write. -/
theorem encode_decodeWr : encode (decodeWr a v) = .host (hostWord true a v) := by
  obtain ⟨i, rfl⟩ | ⟨i, rfl⟩ | h | h := regAddr_cases a
  · rw [decodeWr_txbDataAddr]; rfl
  · rw [decodeWr_frDataAddr]; rfl
  · rw [decodeWr_reserved v h]; rfl
  · fin_cases h <;> rfl

end

/-- The row of a read encodes as that read, its DATA 0, where the address is not reserved (30_encoding.md R82). -/
theorem encode_decodeRd {a : RegAddr} (v : Reg16) (hres : reservedAddr a = false) :
    encode (decodeRd a v) = .host (hostWord false a 0) := by
  obtain ⟨i, rfl⟩ | ⟨i, rfl⟩ | h | h := regAddr_cases a
  · rw [decodeRd_txbDataAddr]; rfl
  · rw [decodeRd_frDataAddr]; rfl
  · rw [hres] at h
    cases h
  · fin_cases h <;> rfl

end Sys2Proof
end

section
/-! The wire encodings read back: values bit by bit, fields, frames (30_encoding.md R67, R68). -/

namespace Sys2Proof

/-! ## Values -/

theorem msbFirst_getElem {w : Nat} (v : BitVec w) {n i : Nat} (hi : i < (msbFirst v n).length) :
    (msbFirst v n)[i] = v.getLsbD (n - 1 - i) := by
  induction n generalizing i with
  | zero => cases hi
  | succ n ih =>
    cases i with
    | zero => rfl
    | succ i =>
      rw [Machine.msbFirst_length] at hi
      simp only [msbFirst, List.getElem_cons_succ]
      rw [ih]
      congr 1
      omega

/-- One more bit read, below those read so far. -/
def pushBit {w : Nat} (acc : BitVec w) (b : Bool) : BitVec w := (acc <<< 1) ||| (BitVec.ofBool b).setWidth w

theorem ofMsbFirst_eq_foldl (w : Nat) (bs : List Bool) : ofMsbFirst w bs = bs.foldl pushBit 0#w := rfl

theorem pushBit_getLsbD_zero {w : Nat} (acc : BitVec w) (b : Bool) (hw : 0 < w) : (pushBit acc b).getLsbD 0 = b := by
  simp [pushBit, hw]

theorem pushBit_getLsbD_succ {w : Nat} (acc : BitVec w) (b : Bool) {i : Nat} (hi : i + 1 < w) :
    (pushBit acc b).getLsbD (i + 1) = acc.getLsbD i := by
  simp [pushBit, hi, BitVec.getLsbD_eq_getElem (Nat.lt_of_succ_lt hi)]

/-- The bits read stand below the accumulated ones, the last bit lowest. -/
theorem getLsbD_foldl_pushBit {w : Nat} (bs : List Bool) (acc : BitVec w) {i : Nat} (hi : i < w) :
    (bs.foldl pushBit acc).getLsbD i =
      if h : i < bs.length then bs[bs.length - 1 - i] else acc.getLsbD (i - bs.length) := by
  induction bs generalizing acc with
  | nil => rfl
  | cons b bs ih =>
    rw [List.foldl_cons, ih]
    obtain h | rfl | h := Nat.lt_trichotomy i bs.length
    · have hidx : bs.length - i = bs.length - 1 - i + 1 := by omega
      simp [h, Nat.lt_succ_of_lt h, hidx]
    · simp [pushBit_getLsbD_zero acc b (Nat.zero_lt_of_lt hi)]
    · obtain ⟨j, rfl⟩ := Nat.exists_eq_add_of_lt h
      have hsub : bs.length + j + 1 - bs.length = j + 1 := by omega
      have hsub' : bs.length + j + 1 - (bs.length + 1) = j := by omega
      rw [dif_neg (by omega), dif_neg (by simp), List.length_cons, hsub, hsub', pushBit_getLsbD_succ acc b (by omega)]

/-- The lowest bits of a value read are the bits given, the last one lowest. -/
theorem getLsbD_ofMsbFirst {w i : Nat} {bs : List Bool} (hw : i < w) (hi : i < bs.length) :
    (ofMsbFirst w bs).getLsbD i = bs[bs.length - 1 - i] := by
  rw [ofMsbFirst_eq_foldl, getLsbD_foldl_pushBit _ _ hw, dif_pos hi]

theorem ofMsbFirst_msbFirst {w : Nat} (v : BitVec w) : ofMsbFirst w (msbFirst v w) = v := by
  apply BitVec.eq_of_getLsbD_eq
  intro i hi
  have hidx : w - 1 - ((msbFirst v w).length - 1 - i) = i := by
    rw [Machine.msbFirst_length]
    omega
  rw [getLsbD_ofMsbFirst hi (by simpa using hi), msbFirst_getElem, hidx]

theorem msbFirst_ofMsbFirst {w : Nat} {bs : List Bool} (h : bs.length = w) : msbFirst (ofMsbFirst w bs) w = bs := by
  apply List.ext_getElem
  · simp [h]
  · intro i hi hi'
    have hidx : bs.length - 1 - (w - 1 - i) = i := by omega
    rw [msbFirst_getElem, getLsbD_ofMsbFirst (by omega) (by omega)]
    simp only [hidx]

/-- A string of symbols reads as bits exactly where it is their writing: no START stands among them. -/
theorem bitsOf_eq_some_iff {ss : List Symbol} {bs : List Bool} : bitsOf ss = some bs ↔ ss = bs.map symbolOf := by
  refine ⟨fun h => ?_, fun h => h ▸ Machine.bitsOf_map_symbolOf bs⟩
  induction ss generalizing bs with
  | nil => cases h; rfl
  | cons s ss ih =>
    unfold bitsOf at h
    split at h
    · next b bs' hb hbs =>
      cases h
      rw [List.map_cons, ← ih hbs]
      cases s <;> cases hb <;> rfl
    · cases h

/-! ## Fields -/

/-- The bits of a value and its parity symbol. -/
def parBits {w : Nat} (x : ParField w) : List Bool := msbFirst x.v w ++ [x.p]

/-- The bits of a value, its parity symbol and its slot. -/
def ackBits {w : Nat} (x : AckField w) : List Bool := msbFirst x.v w ++ [x.p, x.k]

@[simp] theorem parBits_length {w : Nat} (x : ParField w) : (parBits x).length = w + 1 := by simp [parBits]

@[simp] theorem ackBits_length {w : Nat} (x : AckField w) : (ackBits x).length = w + 2 := by simp [ackBits]

theorem parFieldSymbols_eq_map {w : Nat} (x : ParField w) : parFieldSymbols x = (parBits x).map symbolOf :=
  Machine.parFieldSymbols_eq x

theorem ackFieldSymbols_eq_map {w : Nat} (x : AckField w) : ackFieldSymbols x = (ackBits x).map symbolOf := by
  simp [ackFieldSymbols, valueSymbols, ackBits]

theorem dataFieldSymbols_eq_map (ds : List (AckField 8)) :
    dataFieldSymbols ds = (ds.flatMap ackBits).map symbolOf := by
  rw [dataFieldSymbols, List.map_flatMap]
  exact congrArg (ds.flatMap ·) (funext ackFieldSymbols_eq_map)

/-- The first w bits of a string that has more than w are those of the value read from them. -/
theorem eq_msbFirst_append_of_drop {w : Nat} {bs tail : List Bool} (hdrop : bs.drop w = tail) (htail : tail ≠ []) :
    bs = msbFirst (ofMsbFirst w (bs.take w)) w ++ tail := by
  have hlt : w < bs.length := by
    by_contra hge
    rw [List.drop_of_length_le (Nat.le_of_not_lt hge)] at hdrop
    exact htail hdrop.symm
  rw [msbFirst_ofMsbFirst (by simp; omega), ← hdrop, List.take_append_drop]

theorem readParField_eq_some_iff {w : Nat} {bs : List Bool} {x : ParField w} :
    readParField w bs = some x ↔ bs = parBits x := by
  constructor
  · intro h
    unfold readParField at h
    split at h
    · next p hdrop =>
      cases h
      exact eq_msbFirst_append_of_drop hdrop (by simp)
    · cases h
  · rintro rfl
    simp [readParField, parBits, ofMsbFirst_msbFirst]

theorem readAckField_eq_some_iff {w : Nat} {bs : List Bool} {x : AckField w} :
    readAckField w bs = some x ↔ bs = ackBits x := by
  constructor
  · intro h
    unfold readAckField at h
    split at h
    · next p k hdrop =>
      cases h
      exact eq_msbFirst_append_of_drop hdrop (by simp)
    · cases h
  · rintro rfl
    simp [readAckField, ackBits, ofMsbFirst_msbFirst]

/-- A data field is ten bits, then the other fields follow. -/
theorem readDataFields_cons (x : AckField 8) (bs : List Bool) :
    readDataFields (ackBits x ++ bs) = (readDataFields bs).map (x :: ·) := by
  obtain ⟨v, p, k⟩ := x
  have hv := ofMsbFirst_msbFirst v
  simp only [msbFirst] at hv
  simp only [ackBits, msbFirst, List.cons_append, List.nil_append, readDataFields, hv]

theorem readDataFields_eq_some_iff {bs : List Bool} {ds : List (AckField 8)} :
    readDataFields bs = some ds ↔ bs = ds.flatMap ackBits := by
  constructor
  · intro h
    induction bs using readDataFields.induct generalizing ds with
    | case1 => cases h; rfl
    | case2 d7 d6 d5 d4 d3 d2 d1 d0 p k rest ih =>
      obtain ⟨ds', hrest, rfl⟩ := Option.map_eq_some_iff.mp h
      have hvalue : msbFirst (ofMsbFirst 8 [d7, d6, d5, d4, d3, d2, d1, d0]) 8 = [d7, d6, d5, d4, d3, d2, d1, d0] :=
        msbFirst_ofMsbFirst rfl
      rw [List.flatMap_cons, ← ih hrest, ackBits, hvalue]
      rfl
    | case3 bs hne hshort =>
      rw [readDataFields.eq_3 _ hne hshort] at h
      cases h
  · rintro rfl
    induction ds with
    | nil => rfl
    | cons d ds ih => rw [List.flatMap_cons, readDataFields_cons, ih, Option.map_some]

/-! ## Frames -/

/-- The bits of a frame after its START and mode. -/
def frameBits (a : ParField 12) (b : AckField 12) (c : AckField 4) (l : AckField 8) (ds : List (AckField 8)) :
    List Bool :=
  parBits a ++ (ackBits b ++ (ackBits c ++ (ackBits l ++ ds.flatMap ackBits)))

theorem frameSymbols_eq_map (m : Bool) (a : ParField 12) (b : AckField 12) (c : AckField 4) (l : AckField 8)
    (ds : List (AckField 8)) :
    frameSymbols m a b c l ds = .start :: (m :: frameBits a b c l ds).map symbolOf := by
  simp only [frameSymbols, frameBits, parFieldSymbols_eq_map, ackFieldSymbols_eq_map, dataFieldSymbols_eq_map,
    List.map_append, List.map_cons]

/-- A string of bits in the pieces that a frame is read in. -/
theorem frame_pieces (bs : List Bool) :
    bs = bs.take 13 ++ ((bs.drop 13).take 14 ++ ((bs.drop 27).take 6 ++ ((bs.drop 33).take 10 ++ bs.drop 43))) := by
  have h43 : bs.drop 43 = (bs.drop 33).drop 10 := by rw [List.drop_drop]
  have h33 : bs.drop 33 = (bs.drop 27).drop 6 := by rw [List.drop_drop]
  have h27 : bs.drop 27 = (bs.drop 13).drop 14 := by rw [List.drop_drop]
  rw [h43, List.take_append_drop, h33, List.take_append_drop, h27, List.take_append_drop, List.take_append_drop]

theorem readFrame_eq_some_iff {m : Bool} {bs : List Bool} {i : Instr} :
    readFrame m bs = some i ↔
      ∃ a b c l ds, i = .frame m a b c l ds ∧ ds.length = l.v.toNat ∧ bs = frameBits a b c l ds := by
  constructor
  · intro h
    unfold readFrame at h
    split at h
    · next a b c l ds ha hb hc hl hds =>
      split at h
      · next hlen =>
        cases h
        refine ⟨a, b, c, l, ds, rfl, hlen, ?_⟩
        rw [readParField_eq_some_iff] at ha
        rw [readAckField_eq_some_iff] at hb hc hl
        rw [readDataFields_eq_some_iff] at hds
        rw [frame_pieces bs, ha, hb, hc, hl, hds, frameBits]
      · cases h
    · cases h
  · rintro ⟨a, b, c, l, ds, rfl, hlen, rfl⟩
    have ha : (frameBits a b c l ds).take 13 = parBits a := List.take_left' (parBits_length a)
    have h13 : (frameBits a b c l ds).drop 13 = ackBits b ++ (ackBits c ++ (ackBits l ++ ds.flatMap ackBits)) :=
      List.drop_left' (parBits_length a)
    have h27 : (frameBits a b c l ds).drop 27 = ackBits c ++ (ackBits l ++ ds.flatMap ackBits) := by
      rw [show 27 = 13 + 14 from rfl, ← List.drop_drop, h13]
      exact List.drop_left' (ackBits_length b)
    have h33 : (frameBits a b c l ds).drop 33 = ackBits l ++ ds.flatMap ackBits := by
      rw [show 33 = 27 + 6 from rfl, ← List.drop_drop, h27]
      exact List.drop_left' (ackBits_length c)
    have h43 : (frameBits a b c l ds).drop 43 = ds.flatMap ackBits := by
      rw [show 43 = 33 + 10 from rfl, ← List.drop_drop, h33]
      exact List.drop_left' (ackBits_length l)
    rw [readFrame, ha, h13, h27, h33, h43, List.take_left' (ackBits_length b), List.take_left' (ackBits_length c),
      List.take_left' (ackBits_length l), readParField_eq_some_iff.mpr rfl, readAckField_eq_some_iff.mpr rfl,
      readAckField_eq_some_iff.mpr rfl, readAckField_eq_some_iff.mpr rfl, readDataFields_eq_some_iff.mpr rfl]
    exact if_pos hlen

end Sys2Proof
end

section
/-! The groups of words that are pseudo-instructions, read back: operand words, SEND, CONFIG and the groups of one word
(30_encoding.md R84). -/

namespace Sys2Proof

/-! ## Operand words -/

theorem operandWord_extract (top : BitVec 8) {n : Nat} (v : BitVec n) :
    (operandWord top v).extractLsb' 16 8 = top := by
  apply BitVec.eq_of_getLsbD_eq
  intro i hi
  simp only [operandWord, BitVec.getLsbD_extractLsb', BitVec.getLsbD_append]
  simp [hi]

/-- Words written to different registers differ. -/
theorem operandWord_ne {top top' : BitVec 8} (h : top ≠ top') {n n' : Nat} (v : BitVec n) (v' : BitVec n') :
    operandWord top v ≠ operandWord top' v' := by
  intro heq
  rw [← operandWord_extract top v, heq, operandWord_extract] at h
  exact h rfl

theorem setWidth_operandWord (top : BitVec 8) {n : Nat} (hn : n ≤ 16) (v : BitVec n) :
    (operandWord top v).setWidth n = v := by
  apply BitVec.eq_of_getLsbD_eq
  intro i hi
  have hi16 : i < 16 := Nat.lt_of_lt_of_le hi hn
  simp only [operandWord, BitVec.getLsbD_setWidth, BitVec.getLsbD_append]
  simp [hi, hi16]

/-- The word of an operand reads as that operand, and no other word does (log 19). -/
theorem readOperand_eq_some_iff {top : BitVec 8} {n : Nat} (hn : n ≤ 16) {w : HostWord} {v : BitVec n} :
    readOperand top n w = some v ↔ w = operandWord top v := by
  constructor
  · intro h
    unfold readOperand at h
    split at h
    · next hw =>
      cases h
      exact hw
    · cases h
  · rintro rfl
    rw [readOperand, setWidth_operandWord top hn, if_pos rfl]

theorem readOperand_operandWord (top : BitVec 8) {n : Nat} (hn : n ≤ 16) (v : BitVec n) :
    readOperand top n (operandWord top v) = some v := (readOperand_eq_some_iff hn).mpr rfl

/-! ## One word -/

theorem txgoWord_eq : txgoWord = operandWord 0x8F#8 1#16 := by decide

/-- A two-bit operand as ERRLOG_EN and FILTER_EN. -/
theorem ofBool_append_bits (v : BitVec 2) : BitVec.ofBool (v.getLsbD 1) ++ BitVec.ofBool (v.getLsbD 0) = v := by
  revert v
  decide

theorem readOneWord_eq_some_iff {w : HostWord} {i : Instr} :
    readOneWord w = some i ↔ (i = .txgo ∧ w = txgoWord) ∨ ∃ f e, i = .ctrlset f e ∧ w = ctrlsetWord f e := by
  constructor
  · intro h
    unfold readOneWord at h
    split at h
    · next hw =>
      cases h
      exact .inl ⟨rfl, hw⟩
    · obtain ⟨v, hv, rfl⟩ := Option.map_eq_some_iff.mp h
      rw [readOperand_eq_some_iff (by decide)] at hv
      refine .inr ⟨_, _, rfl, ?_⟩
      rw [hv, ctrlsetWord, ofBool_append_bits]
  · rintro (⟨rfl, rfl⟩ | ⟨f, e, rfl, rfl⟩)
    · exact if_pos rfl
    · have hne : ctrlsetWord f e ≠ txgoWord := txgoWord_eq ▸ operandWord_ne (by decide) _ _
      have hread : readOperand 0x80#8 2 (ctrlsetWord f e) = some (BitVec.ofBool e ++ BitVec.ofBool f) :=
        readOperand_operandWord _ (by decide) _
      rw [readOneWord, if_neg hne, hread]
      cases f <;> cases e <;> rfl

/-! ## CONFIG -/

theorem readConfig_eq_some_iff {w0 w1 w2 w3 : HostWord} {i : Instr} :
    readConfig w0 w1 w2 w3 = some i ↔
      ∃ own peer bcast flags,
        i = .config own peer bcast flags ∧ [w0, w1, w2, w3] = configWords own peer bcast flags := by
  constructor
  · intro h
    unfold readConfig at h
    split at h
    · next own peer bcast flags h0 h1 h2 h3 =>
      cases h
      rw [readOperand_eq_some_iff (by decide)] at h0 h1 h2 h3
      exact ⟨own, peer, bcast, flags, rfl, by rw [h0, h1, h2, h3, configWords]⟩
    · cases h
  · rintro ⟨own, peer, bcast, flags, rfl, hws⟩
    simp only [configWords, List.cons.injEq, and_true] at hws
    obtain ⟨rfl, rfl, rfl, rfl⟩ := hws
    rw [readConfig, readOperand_operandWord _ (by decide), readOperand_operandWord _ (by decide),
      readOperand_operandWord _ (by decide), readOperand_operandWord _ (by decide)]

/-! ## SEND -/

theorem ofBool_bit (m : BitVec 1) : BitVec.ofBool (m.getLsbD 0) = m := by
  revert m
  decide

/-- The words of a SEND from data index i on: the bytes, their number as the length, and TXGO. -/
def tailWords (i : Nat) (ds : List Byte) : List HostWord :=
  dataWords i ds ++ [operandWord 0x94#8 (BitVec.ofNat 8 (i + ds.length)), txgoWord]

theorem tailWords_nil (i : Nat) : tailWords i [] = [operandWord 0x94#8 (BitVec.ofNat 8 i), txgoWord] := rfl

theorem tailWords_cons (i : Nat) (d : Byte) (ds : List Byte) :
    tailWords i (d :: ds) = operandWord (BitVec.ofNat 8 (0xA0 + i)) d :: tailWords (i + 1) ds := by
  have hcount : i + (d :: ds).length = i + 1 + ds.length := by
    rw [List.length_cons]
    omega
  rw [tailWords, hcount]
  rfl

/-- The address of a data byte is not TXB_LEN's. -/
theorem dataTop_ne_lenTop {i : Nat} (hi : i < maxData) : BitVec.ofNat 8 (0xA0 + i) ≠ 0x94#8 := by
  change i < 32 at hi
  bv_omega

theorem readSendTail_tailWords {i : Nat} {ds : List Byte} (hlen : i + ds.length ≤ maxData) :
    readSendTail i (tailWords i ds) = some ds := by
  induction ds generalizing i with
  | nil => exact if_pos ⟨rfl, rfl⟩
  | cons d ds ih =>
    rw [List.length_cons] at hlen
    have hi : i < maxData := by omega
    have hrest : readSendTail (i + 1) (tailWords (i + 1) ds) = some ds := ih (by omega)
    have hbyte : ¬ (operandWord (BitVec.ofNat 8 (0xA0 + i)) d = operandWord 0x94#8 (BitVec.ofNat 8 i) ∧
        tailWords (i + 1) ds = [txgoWord]) := fun ⟨hw, _⟩ => operandWord_ne (dataTop_ne_lenTop hi) _ _ hw
    rw [tailWords_cons, readSendTail, if_neg hbyte, if_pos hi, readOperand_operandWord _ (by decide), hrest]

theorem eq_tailWords_of_readSendTail {i : Nat} (hi : i ≤ maxData) {ws : List HostWord} {ds : List Byte}
    (h : readSendTail i ws = some ds) : i + ds.length ≤ maxData ∧ ws = tailWords i ds := by
  induction ws generalizing i ds with
  | nil => cases h
  | cons w ws ih =>
    unfold readSendTail at h
    split at h
    · next hend =>
      obtain ⟨rfl, rfl⟩ := hend
      cases h
      exact ⟨hi, rfl⟩
    · split at h
      · next hlt =>
        split at h
        · next d ds' hbyte hrest =>
          cases h
          obtain ⟨hlen, rfl⟩ := ih hlt hrest
          rw [(readOperand_eq_some_iff (by decide)).mp hbyte, tailWords_cons, List.length_cons]
          exact ⟨by omega, rfl⟩
        · cases h
      · cases h

theorem readSend_eq_some_iff {w0 w1 w2 w3 : HostWord} {ws : List HostWord} {i : Instr} :
    readSend w0 w1 w2 w3 ws = some i ↔
      ∃ m ma sa c ds, i = .send m ma sa c ds ∧ ds.length ≤ maxData ∧
        w0 :: w1 :: w2 :: w3 :: ws = sendWords m ma sa c ds := by
  have hwords (m : Bool) (ma sa : Addr12) (c : Nibble) (ds : List Byte) : sendWords m ma sa c ds =
      operandWord 0x90#8 (BitVec.ofBool m) :: operandWord 0x91#8 ma :: operandWord 0x92#8 sa ::
        operandWord 0x93#8 c :: tailWords 0 ds := by
    rw [tailWords, Nat.zero_add]
    rfl
  constructor
  · intro h
    unfold readSend at h
    split at h
    · next m ma sa c ds h0 h1 h2 h3 htail =>
      cases h
      rw [readOperand_eq_some_iff (by decide)] at h0 h1 h2 h3
      obtain ⟨hlen, rfl⟩ := eq_tailWords_of_readSendTail (Nat.zero_le _) htail
      rw [Nat.zero_add] at hlen
      exact ⟨_, ma, sa, c, ds, rfl, hlen, by rw [hwords, h0, h1, h2, h3, ofBool_bit]⟩
    · cases h
  · rintro ⟨m, ma, sa, c, ds, rfl, hlen, hws⟩
    rw [hwords] at hws
    simp only [List.cons.injEq] at hws
    obtain ⟨rfl, rfl, rfl, rfl, rfl⟩ := hws
    have htail : readSendTail 0 (tailWords 0 ds) = some ds :=
      readSendTail_tailWords ((Nat.zero_add _).symm ▸ hlen)
    rw [readSend, readOperand_operandWord _ (by decide), readOperand_operandWord _ (by decide),
      readOperand_operandWord _ (by decide), readOperand_operandWord _ (by decide), htail]
    cases m <;> rfl

/-! ## Any group -/

/-- A group of more than four words can only be a SEND. -/
theorem readPseudo_long {ws : List HostWord} (h : ws ≠ []) (w0 w1 w2 w3 : HostWord) :
    readPseudo (w0 :: w1 :: w2 :: w3 :: ws) = readSend w0 w1 w2 w3 ws := by
  cases ws with
  | nil => exact absurd rfl h
  | cons w ws => rfl

/-! ## Reading each form -/

theorem decodePseudo_eq_ok_iff {ws : List HostWord} {i : Instr} : decodePseudo ws = .ok i ↔ readPseudo ws = some i := by
  cases h : readPseudo ws <;> simp [decodePseudo, h]

theorem decodeField_eq_ok_iff {f : FieldCode} {ss : List Symbol} {i : Instr} :
    decodeField f ss = .ok i ↔ ∃ bs, ss = bs.map symbolOf ∧ decodeFieldBits f bs = .ok i := by
  constructor
  · intro h
    unfold decodeField at h
    split at h
    · next bs hbits => exact ⟨bs, bitsOf_eq_some_iff.mp hbits, h⟩
    · cases h
  · rintro ⟨bs, rfl, h⟩
    rw [decodeField, Machine.bitsOf_map_symbolOf]
    exact h

theorem fieldOr_eq_ok_iff {r : Option Instr} {i : Instr} : fieldOr r = .ok i ↔ r = some i := by
  cases r <;> simp [fieldOr]

/-- A field with a slot is read from the bits of an operand, and from no other string. -/
theorem fieldOr_readAckField_iff {w : Nat} {bs : List Bool} {row : AckField w → Instr} {i : Instr} :
    fieldOr ((readAckField w bs).map row) = .ok i ↔ ∃ x, row x = i ∧ bs = ackBits x := by
  simp only [fieldOr_eq_ok_iff, Option.map_eq_some_iff, readAckField_eq_some_iff, and_comm]

theorem fieldOr_readParField_iff {w : Nat} {bs : List Bool} {row : ParField w → Instr} {i : Instr} :
    fieldOr ((readParField w bs).map row) = .ok i ↔ ∃ x, row x = i ∧ bs = parBits x := by
  simp only [fieldOr_eq_ok_iff, Option.map_eq_some_iff, readParField_eq_some_iff, and_comm]

theorem decodeFrame_eq_ok_iff {ss : List Symbol} {i : Instr} :
    decodeFrame ss = .ok i ↔
      ∃ m a b c l ds, i = .frame m a b c l ds ∧ ds.length = l.v.toNat ∧ ss = frameSymbols m a b c l ds := by
  constructor
  · intro h
    unfold decodeFrame at h
    split at h
    · split at h
      · next rest m bs hbits =>
        split at h
        · next hread =>
          cases h
          obtain ⟨a, b, c, l, ds, rfl, hlen, rfl⟩ := readFrame_eq_some_iff.mp hread
          refine ⟨m, a, b, c, l, ds, rfl, hlen, ?_⟩
          rw [bitsOf_eq_some_iff.mp hbits, frameSymbols_eq_map]
        · cases h
      · cases h
    · cases h
  · rintro ⟨m, a, b, c, l, ds, rfl, hlen, rfl⟩
    rw [frameSymbols_eq_map, decodeFrame, Machine.bitsOf_map_symbolOf]
    simp only [readFrame_eq_some_iff.mpr ⟨a, b, c, l, ds, rfl, hlen, rfl⟩]

/-! ## What is read encodes to the same form -/

theorem encode_of_decodeSymbol {slot : Bool} {wave : List Bool} {i : Instr} (h : decodeSymbol slot wave = .ok i) :
    WellFormed i = true ∧ encode i = .symbol slot wave := by
  unfold decodeSymbol at h
  split at h
  · next hone =>
    cases h
    cases slot <;> exact ⟨rfl, hone ▸ rfl⟩
  · split at h
    · next hzero =>
      cases h
      cases slot <;> exact ⟨rfl, hzero ▸ rfl⟩
    · split at h
      · next hstart =>
        obtain ⟨rfl, rfl⟩ := hstart
        cases h
        exact ⟨rfl, rfl⟩
      · cases h

theorem encode_of_decodeFieldBits {f : FieldCode} {bs : List Bool} {i : Instr} (h : decodeFieldBits f bs = .ok i) :
    WellFormed i = true ∧ encode i = .field f (bs.map symbolOf) := by
  cases f with
  | none | start => cases h
  | mode =>
    match bs, h with
    | [_], rfl => exact ⟨rfl, rfl⟩
  | master =>
    obtain ⟨x, rfl, rfl⟩ := fieldOr_readParField_iff.mp h
    exact ⟨rfl, congrArg _ (parFieldSymbols_eq_map x)⟩
  | slave | control | length | data =>
    obtain ⟨x, rfl, rfl⟩ := fieldOr_readAckField_iff.mp h
    exact ⟨rfl, congrArg _ (ackFieldSymbols_eq_map x)⟩

theorem encode_of_readPseudo {ws : List HostWord} {i : Instr} (h : readPseudo ws = some i) :
    WellFormed i = true ∧ encode i = .pseudo ws := by
  unfold readPseudo at h
  split at h
  · next w =>
    obtain ⟨rfl, rfl⟩ | ⟨f, e, rfl, rfl⟩ := readOneWord_eq_some_iff.mp h <;> exact ⟨rfl, rfl⟩
  · next w0 w1 w2 w3 =>
    obtain ⟨own, peer, bcast, flags, rfl, hws⟩ := readConfig_eq_some_iff.mp h
    exact ⟨rfl, congrArg Code.pseudo hws.symm⟩
  · next w0 w1 w2 w3 ws _ =>
    obtain ⟨m, ma, sa, c, ds, rfl, hlen, hws⟩ := readSend_eq_some_iff.mp h
    exact ⟨decide_eq_true hlen, congrArg Code.pseudo hws.symm⟩
  · cases h

end Sys2Proof

open Sys2Proof

/-- Settles O10: a form is read from the writing of its operands (the `_iff` lemmas of the readers), and a host word by
the row of its address (`regAddr_cases`). -/
theorem decodeOfEncode : Obligations.DecodeOfEncode := by
  intro i hwf
  cases i
  case bit1 | bit0 | start | ackSlotNotAcked | ackSlotAcked => rfl
  case fieldMode m => exact decodeField_eq_ok_iff.mpr ⟨[m], rfl, rfl⟩
  case fieldMaster a =>
    exact decodeField_eq_ok_iff.mpr ⟨_, parFieldSymbols_eq_map a, fieldOr_readParField_iff.mpr ⟨a, rfl, rfl⟩⟩
  case fieldSlave x | fieldControl x | fieldLength x | fieldData x =>
    exact decodeField_eq_ok_iff.mpr ⟨_, ackFieldSymbols_eq_map x, fieldOr_readAckField_iff.mpr ⟨x, rfl, rfl⟩⟩
  case frame m a b c l ds =>
    exact decodeFrame_eq_ok_iff.mpr ⟨m, a, b, c, l, ds, rfl, beq_iff_eq.mp hwf, rfl⟩
  case wrTxbDataI i v => exact (decode_host_wr _ v).trans (congrArg _ (decodeWr_txbDataAddr v i))
  case rdTxbDataI i => exact (decode_host_rd _ 0).trans (congrArg _ (decodeRd_txbDataAddr 0 i))
  case wrFrDataI i v => exact (decode_host_wr _ v).trans (congrArg _ (decodeWr_frDataAddr v i))
  case rdFrDataI i => exact (decode_host_rd _ 0).trans (congrArg _ (decodeRd_frDataAddr 0 i))
  case wrRdReserved dir a v =>
    cases dir with
    | true => exact (decode_host_wr a v).trans (congrArg _ (decodeWr_reserved v hwf))
    | false => exact (decode_host_rd a v).trans (congrArg _ (decodeRd_reserved v hwf))
  case txgo => exact (decodePseudo_eq_ok_iff (ws := [txgoWord])).mpr (readOneWord_eq_some_iff.mpr (.inl ⟨rfl, rfl⟩))
  case ctrlset f e => exact decodePseudo_eq_ok_iff.mpr (readOneWord_eq_some_iff.mpr (.inr ⟨f, e, rfl, rfl⟩))
  case config own peer bcast flags =>
    exact decodePseudo_eq_ok_iff.mpr (readConfig_eq_some_iff.mpr ⟨own, peer, bcast, flags, rfl, rfl⟩)
  case send m ma sa c ds =>
    have hread := readSend_eq_some_iff.mpr ⟨m, ma, sa, c, ds, rfl, of_decide_eq_true hwf, rfl⟩
    exact decodePseudo_eq_ok_iff.mpr ((readPseudo_long (by simp) _ _ _ _).trans hread)
  case rdCtrl | rdStatus | rdTxResult | rdRxResult | rdOwnAddr | rdPeerAddr | rdBcastAddr | rdCtrlFlags | rdRegTsLo |
      rdRegTsHi | rdCmd | rdTxbMode | rdTxbMaster | rdTxbSlave | rdTxbCtrl | rdTxbLen | rdFrMode | rdFrMaster |
      rdFrSlave | rdFrCtrl | rdFrLen => exact decode_host_rd _ 0
  all_goals exact decode_host_wr _ _

/-- Settles O11: form by form, what a reader accepts is the writing of the operands it answers; a host word is the row
of its address, and a read of a register that has a row of its own drops DATA. -/
theorem decodedReencodes : Obligations.DecodedReencodes := by
  intro c i h
  cases c with
  | symbol slot wave => exact (encode_of_decodeSymbol h).imp_right .inl
  | field f ss =>
    obtain ⟨bs, rfl, hread⟩ := decodeField_eq_ok_iff.mp h
    exact (encode_of_decodeFieldBits hread).imp_right .inl
  | frame ss =>
    obtain ⟨m, a, b, c, l, ds, rfl, hlen, rfl⟩ := decodeFrame_eq_ok_iff.mp h
    exact ⟨beq_iff_eq.mpr hlen, .inl rfl⟩
  | host w =>
    cases h
    obtain ⟨dir, a, v, rfl⟩ : ∃ dir a v, w = hostWord dir a v := ⟨_, _, _, (hostWord_parts w).symm⟩
    cases dir with
    | true =>
      rw [decodeHost_wr]
      exact ⟨wellFormed_decodeWr a v, .inl (encode_decodeWr a v)⟩
    | false =>
      rw [decodeHost_rd]
      refine ⟨wellFormed_decodeRd a v, ?_⟩
      cases hres : reservedAddr a with
      | true => exact .inl (congrArg encode (decodeRd_reserved v hres))
      | false => exact .inr ⟨a, v, rfl, hres, encode_decodeRd v hres⟩
  | pseudo ws => exact (encode_of_readPseudo (decodePseudo_eq_ok_iff.mp h)).imp_right .inl

end

section
/-! What the host port does, by address: HostWrite and HostRead, and the rows of a word (46_host_interface.md R171,
R172). -/

namespace Sys2Proof.Machine

/-! ## HostWrite and HostRead by address -/

/-- The named registers that HostWrite stores to (46_host_interface.md R171). -/
def storedAddrs : List RegAddr := [0x00#7, 0x04#7, 0x05#7, 0x06#7, 0x07#7, 0x10#7, 0x11#7, 0x12#7, 0x13#7, 0x14#7]

/-- The addresses that HostWrite stores to have a mask, CMD apart (30_encoding.md R75, R77). -/
theorem rwMask_eq_none_spec (a : RegAddr) (h : rwMask a = none) : a.extractLsb' 5 2 ≠ 1#2 ∧ a ∉ storedAddrs := by
  revert a
  decide

theorem rwMask_eq_some_spec (a : RegAddr) (h : (rwMask a).isSome) : a.extractLsb' 5 2 = 1#2 ∨ a ∈ storedAddrs := by
  revert a
  decide

theorem hostWrite_of_no_mask {a : RegAddr} (hmask : rwMask a = none) (hcmd : a ≠ 0x0F#7) (v : Reg16) (s : State) :
    hostWrite a v s = s := by
  obtain ⟨htop, haddr⟩ := rwMask_eq_none_spec a hmask
  simp [storedAddrs] at haddr
  simp [hostWrite, htop, haddr, hcmd]

theorem rwMask_frDataAddr (i : BitVec 5) : rwMask (frDataAddr i) = none ∧ frDataAddr i ≠ 0x0F#7 := by
  revert i
  decide

theorem rwMask_reserved (a : RegAddr) (h : reservedAddr a = true) : rwMask a = none ∧ a ≠ 0x0F#7 := by
  revert a
  decide

theorem hostWrite_txbDataAddr (i : BitVec 5) (v : Reg16) (s : State) :
    hostWrite (txbDataAddr i) v s = setTxbByte i (v.setWidth 8) s := by
  rw [hostWrite, if_pos (txbDataAddr_top i), dataIndex_txbDataAddr]

theorem hostWrite_frDataAddr (i : BitVec 5) (v : Reg16) (s : State) : hostWrite (frDataAddr i) v s = s := by
  obtain ⟨hmask, hcmd⟩ := rwMask_frDataAddr i
  exact hostWrite_of_no_mask hmask hcmd v s

theorem hostWrite_reserved {a : RegAddr} (h : reservedAddr a = true) (v : Reg16) (s : State) : hostWrite a v s = s := by
  obtain ⟨hmask, hcmd⟩ := rwMask_reserved a h
  exact hostWrite_of_no_mask hmask hcmd v s

theorem hostRead_of_top {b : RegAddr} (h : b.extractLsb' 5 2 = 1#2) (s : State) :
    hostRead b s = byteWord s.txb (dataIndex b) := if_pos h

theorem hostRead_txbDataAddr (i : BitVec 5) (s : State) : hostRead (txbDataAddr i) s = byteWord s.txb i := by
  rw [hostRead_of_top (txbDataAddr_top i), dataIndex_txbDataAddr]

theorem hostRead_frDataAddr (i : BitVec 5) (s : State) : hostRead (frDataAddr i) s = byteWord s.frame i := by
  rw [hostRead, frDataAddr_top, if_neg (by decide), if_pos rfl, dataIndex_frDataAddr]

theorem hostRead_reserved {a : RegAddr} (h : reservedAddr a = true) (s : State) : hostRead a s = 0 := by
  obtain ⟨htx, hfr, hnamed⟩ := reservedAddr_spec a h
  simp [namedAddrs] at hnamed
  simp [hostRead, htx, hfr, hnamed]

/-! ## The rows of a write and of a read -/

/-- The row of a write does HostWrite at its address (46_host_interface.md R171). -/
theorem exec_decodeWr (a : RegAddr) (v : Reg16) (s : State) : exec (decodeWr a v) s = live s (hostWrite a v) := by
  obtain ⟨i, rfl⟩ | ⟨i, rfl⟩ | hres | hnamed := regAddr_cases a
  · rw [decodeWr_txbDataAddr, funext (hostWrite_txbDataAddr i v)]
    rfl
  · rw [decodeWr_frDataAddr, funext (hostWrite_frDataAddr i v)]
    rfl
  · rw [decodeWr_reserved v hres, funext (hostWrite_reserved hres v)]
    rfl
  · fin_cases hnamed <;> rfl

/-- The row of a read puts out HostRead of its address (46_host_interface.md R172). -/
theorem exec_decodeRd (a : RegAddr) (v : Reg16) (s : State) :
    exec (decodeRd a v) s = live s fun s => putRead (hostRead a s) s := by
  obtain ⟨i, rfl⟩ | ⟨i, rfl⟩ | hres | hnamed := regAddr_cases a
  · rw [decodeRd_txbDataAddr, funext (hostRead_txbDataAddr i)]
    rfl
  · rw [decodeRd_frDataAddr, funext (hostRead_frDataAddr i)]
    rfl
  · rw [decodeRd_reserved v hres, funext (hostRead_reserved hres)]
    rfl
  · fin_cases hnamed <;> rfl

/-- The row of a word is the host operation of that word (30_encoding.md R82). -/
theorem exec_decodeHost (w : HostWord) (s : State) : exec (decodeHost w) s = live s (hostOp w) := by
  unfold decodeHost hostOp
  split
  · exact exec_decodeWr _ _ _
  · exact exec_decodeRd _ _ _

/-! ## Reading after a write -/

/-- The low n bits of a value are the value under a mask of n ones. -/
theorem setWidth_setWidth_eq_and (n : Nat) (v : Reg16) :
    (v.setWidth n).setWidth 16 = v &&& (BitVec.allOnes n).setWidth 16 := by
  apply BitVec.eq_of_getLsbD_eq
  intro i hi
  by_cases h : i < n <;> simp [h, hi]

/-- A flag as the lowest bit of a register. -/
theorem setWidth_ofBool_getLsbD (v : Reg16) : (BitVec.ofBool (v.getLsbD 0)).setWidth 16 = v &&& 0x0001#16 := by
  have hbit : BitVec.ofBool (v.getLsbD 0) = v.setWidth 1 := by
    apply BitVec.eq_of_getLsbD_eq
    intro i hi
    obtain rfl : i = 0 := by omega
    simp
  rw [hbit]
  exact setWidth_setWidth_eq_and 1 v

/-- CTRL's two flags as its two lowest bits (30_encoding.md R76). -/
theorem setWidth_two_flags (v : Reg16) :
    (BitVec.ofBool (v.getLsbD 1) ++ BitVec.ofBool (v.getLsbD 0)).setWidth 16 = v &&& 0x0003#16 := by
  have hbits : BitVec.ofBool (v.getLsbD 1) ++ BitVec.ofBool (v.getLsbD 0) = v.setWidth 2 := by
    rw [← ofBool_append_bits (v.setWidth 2)]
    simp
  rw [hbits]
  exact setWidth_setWidth_eq_and 2 v

theorem eq_txbDataAddr (a : RegAddr) (h : a.extractLsb' 5 2 = 1#2) : a = txbDataAddr (dataIndex a) := by
  revert a
  decide

theorem dataIndex_ne {a b : RegAddr} (ha : a.extractLsb' 5 2 = 1#2) (hb : b.extractLsb' 5 2 = 1#2) (h : b ≠ a) :
    dataIndex a ≠ dataIndex b := by
  intro hindex
  rw [eq_txbDataAddr a ha, eq_txbDataAddr b hb, hindex] at h
  exact h rfl

/-- A read-write register reads back what was written, masked to its implemented bits (30_encoding.md R75). -/
theorem hostRead_hostWrite_same {a : RegAddr} {m : Reg16} (h : rwMask a = some m) (v : Reg16) (s : State) :
    hostRead a (hostWrite a v s) = v &&& m := by
  unfold rwMask at h
  split at h
  · next htop =>
    cases h
    rw [hostRead_of_top htop, hostWrite, if_pos htop, setTxbByte_read, if_pos rfl]
    exact setWidth_setWidth_eq_and 8 v
  split at h
  · next haddr =>
    cases h
    subst haddr
    exact setWidth_two_flags v
  split at h
  · next haddr =>
    cases h
    obtain rfl | rfl | rfl | rfl | rfl := haddr <;> exact setWidth_setWidth_eq_and 12 v
  split at h
  · next haddr =>
    cases h
    obtain rfl | rfl := haddr <;> exact setWidth_setWidth_eq_and 4 v
  split at h
  · next haddr =>
    cases h
    subst haddr
    exact setWidth_ofBool_getLsbD v
  split at h
  · next haddr =>
    cases h
    subst haddr
    exact setWidth_setWidth_eq_and 8 v
  · cases h

/-- No write changes what another address reads, but for TX_GO, which STATUS shows. -/
theorem hostRead_hostWrite_other {a b : RegAddr} (hne : b ≠ a) (hstatus : ¬(a = 0x0F#7 ∧ b = 0x01#7)) (v : Reg16)
    (s : State) : hostRead b (hostWrite a v s) = hostRead b s := by
  by_cases hcmd : a = 0x0F#7
  · have hb : b ≠ 0x01#7 := fun hb => hstatus ⟨hcmd, hb⟩
    subst hcmd
    unfold hostRead
    rw [if_neg hb, if_neg hb]
    rfl
  cases hmask : rwMask a with
  | none => rw [hostWrite_of_no_mask hmask hcmd]
  | some m =>
    obtain htop | haddr := rwMask_eq_some_spec a (hmask ▸ rfl)
    · rw [hostWrite, if_pos htop]
      by_cases hb : b.extractLsb' 5 2 = 1#2
      · rw [hostRead_of_top hb, hostRead_of_top hb, setTxbByte_read, if_neg (dataIndex_ne htop hb hne)]
      · rw [hostRead, hostRead, if_neg hb, if_neg hb]
        rfl
    · simp only [storedAddrs, List.mem_cons, List.not_mem_nil, or_false] at haddr
      obtain rfl | rfl | rfl | rfl | rfl | rfl | rfl | rfl | rfl | rfl := haddr
      all_goals
        unfold hostRead
        rw [if_neg hne, if_neg hne]
        rfl

end Sys2Proof.Machine

open Sys2Proof Sys2Proof.Machine

/-- Settles O7: the row of a word is that word's host operation (`exec_decodeHost`), address by address. -/
theorem hostWordsRunHostReadAndWrite : Obligations.HostWordsRunHostReadAndWrite := by
  intro w s h
  rw [exec_decodeHost, live_none h]
  rfl

/-- Settles O8: a masked register reads back (`hostRead_hostWrite_same`), an address with no mask stores nothing
(`hostWrite_of_no_mask`), and what is stored is read at its own address alone (`hostRead_hostWrite_other`). -/
theorem hostWriteReadBack : Obligations.HostWriteReadBack := fun _ _ v s =>
  ⟨fun _ h => hostRead_hostWrite_same h v s, fun hmask hcmd => hostWrite_of_no_mask hmask hcmd v s,
    fun hne hstatus => hostRead_hostWrite_other hne hstatus v s⟩

end

section
/-! The pseudo-instructions: what their writes leave in the registers and in TXB, and the rows they stand for
(30_encoding.md R84, 46_host_interface.md R171). -/

namespace Sys2Proof.Machine

/-! ## Staging bytes -/

/-- The bytes of a list from index i on, the others as they were. -/
def overlayFrom (i : Nat) (ds : List Byte) (old : Vector Byte 32) : Vector Byte 32 :=
  Vector.ofFn fun j : Fin 32 => if i ≤ j.val then ds.getD (j.val - i) old[j] else old[j]

theorem overlayFrom_zero (ds : List Byte) (old : Vector Byte 32) : overlayFrom 0 ds old = overlay ds old := by
  simp [overlayFrom, overlay]

theorem overlayFrom_nil (i : Nat) (old : Vector Byte 32) : overlayFrom i [] old = old := by
  apply Vector.ext
  intro j hj
  simp [overlayFrom]

theorem overlayFrom_getElem (i : Nat) (ds : List Byte) (old : Vector Byte 32) {j : Nat} (hj : j < 32) :
    (overlayFrom i ds old)[j] = if i ≤ j then ds.getD (j - i) old[j] else old[j] := Vector.getElem_ofFn hj

/-- The first byte of the list goes to index i, the others from index i + 1 on. -/
theorem overlayFrom_cons (i : Nat) (d : Byte) (ds : List Byte) (old : Vector Byte 32) :
    overlayFrom i (d :: ds) old = overlayFrom (i + 1) ds (old.setIfInBounds i d) := by
  apply Vector.ext
  intro j hj
  rw [overlayFrom_getElem i _ _ hj, overlayFrom_getElem (i + 1) _ _ hj, Vector.getElem_setIfInBounds hj]
  obtain h | rfl | h := Nat.lt_trichotomy j i
  · rw [if_neg (by omega), if_neg (by omega), if_neg (by omega)]
  · rw [if_pos (Nat.le_refl j), if_neg (by omega), if_pos rfl, Nat.sub_self]
    rfl
  · obtain ⟨k, rfl⟩ := Nat.exists_eq_add_of_lt h
    have hsub : i + k + 1 - i = k + 1 := by omega
    have hsub' : i + k + 1 - (i + 1) = k := by omega
    rw [if_pos (by omega), if_pos (by omega), if_neg (by omega), hsub, hsub']
    rfl

theorem ofNat_dataAddr {i : Nat} (hi : i < maxData) : BitVec.ofNat 7 (0x20 + i) = txbDataAddr (BitVec.ofNat 5 i) := by
  have h : ∀ j : Fin 32, BitVec.ofNat 7 (0x20 + j.val) = txbDataAddr (BitVec.ofNat 5 j.val) := by decide
  exact h ⟨i, hi⟩

/-- `WR TXB_DATA[i], d` as HostWrite, from the address on (46_host_interface.md R180). -/
theorem hostWrite_dataAddr {i : Nat} (hi : i < maxData) (v : Reg16) (s : State) :
    hostWrite (BitVec.ofNat 7 (0x20 + i)) v s = setTxbByte (BitVec.ofNat 5 i) (v.setWidth 8) s := by
  rw [ofNat_dataAddr hi, hostWrite_txbDataAddr]

/-- s with another TXB. -/
def withTxb (b : FrameBuf) (s : State) : State := { s with txb := b }

@[simp] theorem withTxb_txb (b : FrameBuf) (s : State) : (withTxb b s).txb = b := rfl

@[simp] theorem withTxb_withTxb (b b' : FrameBuf) (s : State) : withTxb b (withTxb b' s) = withTxb b s := rfl

theorem setTxbByte_eq_withTxb (i : BitVec 5) (d : Byte) (s : State) :
    setTxbByte i d s = withTxb { s.txb with data := s.txb.data.setIfInBounds i.toNat d } s := rfl

/-- Bytes staged from index i on. -/
theorem stageBytes_eq {i : Nat} {ds : List Byte} (hlen : i + ds.length ≤ maxData) (s : State) :
    stageBytes i ds s = withTxb { s.txb with data := overlayFrom i ds s.txb.data } s := by
  induction ds generalizing i s with
  | nil => rw [overlayFrom_nil]; rfl
  | cons d ds ih =>
    rw [List.length_cons] at hlen
    have hi : i < 32 := by
      change _ ≤ 32 at hlen
      omega
    have hidx : (BitVec.ofNat 5 i).toNat = i := Nat.mod_eq_of_lt hi
    have hd : (d.setWidth 16).setWidth 8 = d := by simp
    rw [stageBytes, hostWrite_dataAddr hi, hd, ih (by omega), overlayFrom_cons, setTxbByte_eq_withTxb, hidx,
      withTxb_withTxb, withTxb_txb]

/-! ## The rows -/

/-- What a row answers on a running block, by the update that is its meaning. -/
theorem exec_of_running {i : Instr} {s : State} {f : State → State} (hrow : exec i s = live s f) (h : s.fault = none) :
    exec i s = .next (f s) := hrow.trans (live_none h f)

section

variable (v : Reg16) (s : State)

theorem hostWrite_txbMode : hostWrite 0x10#7 v s = withTxb { s.txb with mode := v.getLsbD 0 } s := rfl

theorem hostWrite_txbMaster : hostWrite 0x11#7 v s = withTxb { s.txb with master := v.setWidth 12 } s := rfl

theorem hostWrite_txbSlave : hostWrite 0x12#7 v s = withTxb { s.txb with slave := v.setWidth 12 } s := rfl

theorem hostWrite_txbCtrl : hostWrite 0x13#7 v s = withTxb { s.txb with ctrl := v.setWidth 4 } s := rfl

theorem hostWrite_txbLen : hostWrite 0x14#7 v s = withTxb { s.txb with len := v.setWidth 8 } s := rfl

end

/-- An operand of a register's width is stored as it is. -/
theorem setWidth_operand {n : Nat} (hn : n ≤ 16) (v : BitVec n) : (v.setWidth 16).setWidth n = v :=
  (BitVec.setWidth_setWidth_of_le v hn).trans (BitVec.setWidth_eq v)

theorem setWidth_ofBool_bit (m : Bool) : ((BitVec.ofBool m).setWidth 16).getLsbD 0 = m := by cases m <;> rfl

/-- TX_GO written as 1 (30_encoding.md R77). -/
theorem hostWrite_txGo (s : State) : hostWrite 0x0F#7 0x0001#16 s = { s with txPending := true } := rfl

theorem configure_eq (own peer bcast : Addr12) (flags : Nibble) (s : State) :
    configure own peer bcast flags s =
      { s with ownAddr := own, peerAddr := peer, bcastAddr := bcast, ctrlFlags := flags } := by
  have haddr (a : Addr12) : (a.setWidth 16).setWidth 12 = a := setWidth_operand (by decide) a
  have hflags : (flags.setWidth 16).setWidth 4 = flags := setWidth_operand (by decide) flags
  calc configure own peer bcast flags s
      = { s with
          ownAddr := (own.setWidth 16).setWidth 12
          peerAddr := (peer.setWidth 16).setWidth 12
          bcastAddr := (bcast.setWidth 16).setWidth 12
          ctrlFlags := (flags.setWidth 16).setWidth 4 } := rfl
    _ = { s with ownAddr := own, peerAddr := peer, bcastAddr := bcast, ctrlFlags := flags } := by
      rw [haddr, haddr, haddr, hflags]

/-- The header of a SEND. -/
theorem hostWrite_header (m : Bool) (ma sa : Addr12) (c : Nibble) (s : State) :
    hostWrite 0x13#7 (c.setWidth 16) (hostWrite 0x12#7 (sa.setWidth 16)
      (hostWrite 0x11#7 (ma.setWidth 16) (hostWrite 0x10#7 ((BitVec.ofBool m).setWidth 16) s))) =
      withTxb { s.txb with mode := m, master := ma, slave := sa, ctrl := c } s := by
  have haddr (a : Addr12) : (a.setWidth 16).setWidth 12 = a := setWidth_operand (by decide) a
  have hctrl : (c.setWidth 16).setWidth 4 = c := setWidth_operand (by decide) c
  simp only [hostWrite_txbMode, hostWrite_txbMaster, hostWrite_txbSlave, hostWrite_txbCtrl, setWidth_ofBool_bit, haddr,
    hctrl, withTxb_txb, withTxb_withTxb]

theorem stageFrame_eq (m : Bool) (ma sa : Addr12) (c : Nibble) {ds : List Byte} (hlen : ds.length ≤ maxData)
    (s : State) :
    stageFrame m ma sa c ds s = { s with
      txb := { mode := m, master := ma, slave := sa, ctrl := c, len := BitVec.ofNat 8 ds.length,
               data := overlay ds s.txb.data }
      txPending := true } := by
  have hcount (n : Byte) : (n.setWidth 16).setWidth 8 = n := setWidth_operand (by decide) n
  rw [stageFrame, hostWrite_header, stageBytes_eq ((Nat.zero_add _).symm ▸ hlen), overlayFrom_zero, hostWrite_txbLen,
    hcount, hostWrite_txGo]
  simp only [withTxb_txb, withTxb_withTxb]
  rfl

theorem ctrlset_eq (f e : Bool) (s : State) :
    hostWrite 0x00#7 ((BitVec.ofBool e ++ BitVec.ofBool f).setWidth 16) s =
      { s with filterEn := f, errlogEn := e } := by
  cases f <;> cases e <;> rfl

/-! ## Expansions as writes -/

/-- Writes applied in order (46_host_interface.md R171). -/
def applyWrites (ops : List (RegAddr × Reg16)) (s : State) : State := ops.foldl (fun s op => hostWrite op.1 op.2 s) s

/-- The rows of writes. -/
def writeRows (ops : List (RegAddr × Reg16)) : List Instr := ops.map fun op => decodeWr op.1 op.2

/-- The writes of `WR TXB_DATA[i], d` for the bytes of a list, from index i on. -/
def dataOps (i : Nat) : List Byte → List (RegAddr × Reg16)
  | [] => []
  | d :: ds => (BitVec.ofNat 7 (0x20 + i), d.setWidth 16) :: dataOps (i + 1) ds

@[simp] theorem writeRows_nil : writeRows [] = [] := rfl

@[simp] theorem writeRows_cons (a : RegAddr) (v : Reg16) (ops : List (RegAddr × Reg16)) :
    writeRows ((a, v) :: ops) = decodeWr a v :: writeRows ops := rfl

@[simp] theorem writeRows_append (xs ys : List (RegAddr × Reg16)) :
    writeRows (xs ++ ys) = writeRows xs ++ writeRows ys := List.map_append

@[simp] theorem applyWrites_nil (s : State) : applyWrites [] s = s := rfl

@[simp] theorem applyWrites_cons (a : RegAddr) (v : Reg16) (ops : List (RegAddr × Reg16)) (s : State) :
    applyWrites ((a, v) :: ops) s = applyWrites ops (hostWrite a v s) := rfl

@[simp] theorem applyWrites_append (xs ys : List (RegAddr × Reg16)) (s : State) :
    applyWrites (xs ++ ys) s = applyWrites ys (applyWrites xs s) := List.foldl_append

theorem hostWrite_fault (a : RegAddr) (v : Reg16) (s : State) : (hostWrite a v s).fault = s.fault := by
  obtain heq | ⟨_, heq⟩ | ⟨_, _, heq⟩ | ⟨_, heq⟩ | ⟨_, heq⟩ | ⟨_, heq⟩ | ⟨_, heq⟩ | heq := hostWrite_cases a v s <;>
    rw [heq]

/-- Rows of writes, one after another, do their writes, if the block runs. -/
theorem runRows_writeRows {s : State} (h : s.fault = none) (ops : List (RegAddr × Reg16)) :
    runRows (writeRows ops) s = .next (applyWrites ops s) := by
  induction ops generalizing s with
  | nil => rfl
  | cons op ops ih =>
    have hrow : exec (decodeWr op.1 op.2) s = .next (hostWrite op.1 op.2 s) :=
      exec_of_running (exec_decodeWr _ _ _) h
    rw [writeRows, List.map_cons, runRows, hrow]
    exact ih ((hostWrite_fault _ _ _).trans h)

/-- A stopped model does not start on rows (40_step.md R94). -/
theorem runRows_writeRows_eq_live {ops : List (RegAddr × Reg16)} (hne : ops ≠ []) (s : State) :
    runRows (writeRows ops) s = live s (applyWrites ops) := by
  cases h : s.fault with
  | none => rw [runRows_writeRows h, live_none h]
  | some r =>
    obtain ⟨op, ops, rfl⟩ := List.exists_cons_of_ne_nil hne
    rw [writeRows, List.map_cons, runRows, exec_of_fault h, live_some h]

/-- A row whose meaning is a list of writes. -/
theorem exec_eq_live_applyWrites {i : Instr} {f : State → State} {ops : List (RegAddr × Reg16)}
    (hrow : ∀ s, exec i s = live s f) (hops : ∀ s, applyWrites ops s = f s) (s : State) :
    exec i s = live s (applyWrites ops) := (hrow s).trans (congrArg (live s) (funext hops).symm)

theorem applyWrites_dataOps (i : Nat) (ds : List Byte) (s : State) :
    applyWrites (dataOps i ds) s = stageBytes i ds s := by
  induction ds generalizing i s with
  | nil => rfl
  | cons d ds ih => exact ih (i + 1) _

theorem dataRows_eq_writeRows {i : Nat} {ds : List Byte} (hlen : i + ds.length ≤ maxData) :
    dataRows i ds = writeRows (dataOps i ds) := by
  induction ds generalizing i with
  | nil => rfl
  | cons d ds ih =>
    rw [List.length_cons] at hlen
    rw [dataRows, ih (by omega), dataOps, ofNat_dataAddr (by omega), writeRows, writeRows, List.map_cons,
      decodeWr_txbDataAddr]

/-- The number of bytes of a SEND fits TXB_LEN. -/
theorem setWidth_length {n : Nat} (h : n ≤ maxData) : (BitVec.ofNat 8 n).setWidth 16 = BitVec.ofNat 16 n := by
  change n ≤ 32 at h
  bv_omega

/-- The writes of SEND, in order (30_encoding.md R84). -/
def sendOps (m : Bool) (ma sa : Addr12) (c : Nibble) (ds : List Byte) : List (RegAddr × Reg16) :=
  [(0x10#7, (BitVec.ofBool m).setWidth 16), (0x11#7, ma.setWidth 16), (0x12#7, sa.setWidth 16),
    (0x13#7, c.setWidth 16)] ++ dataOps 0 ds ++ [(0x14#7, (BitVec.ofNat 8 ds.length).setWidth 16), (0x0F#7, 1#16)]

/-- Every pseudo-instruction is a list of writes, in its own meaning and as its expansion (30_encoding.md R84). -/
theorem expansion_writes {i : Instr} {rows : List Instr} (hwf : WellFormed i = true) (h : expansion i = some rows) :
    ∃ ops, ops ≠ [] ∧ rows = writeRows ops ∧ ∀ s, exec i s = live s (applyWrites ops) := by
  cases i
  case txgo =>
    cases h
    exact ⟨[(0x0F#7, 1#16)], List.cons_ne_nil _ _, rfl, exec_eq_live_applyWrites (fun _ => rfl) fun _ => rfl⟩
  case ctrlset f e =>
    cases h
    refine ⟨[(0x00#7, (BitVec.ofBool e ++ BitVec.ofBool f).setWidth 16)], List.cons_ne_nil _ _, ?_,
      exec_eq_live_applyWrites (fun _ => rfl) fun s => ?_⟩
    · cases f <;> cases e <;> rfl
    · simp only [applyWrites_cons, applyWrites_nil]
  case config own peer bcast flags =>
    cases h
    refine ⟨[(0x04#7, own.setWidth 16), (0x05#7, peer.setWidth 16), (0x06#7, bcast.setWidth 16),
      (0x07#7, flags.setWidth 16)], List.cons_ne_nil _ _, ?_, exec_eq_live_applyWrites (fun _ => rfl) fun s => ?_⟩
    · simp only [writeRows_cons, writeRows_nil]
      rfl
    · simp only [applyWrites_cons, applyWrites_nil, configure]
  case send m ma sa c ds =>
    cases h
    have hlen : ds.length ≤ maxData := of_decide_eq_true hwf
    refine ⟨sendOps m ma sa c ds, by simp [sendOps], ?_, exec_eq_live_applyWrites (fun _ => rfl) fun s => ?_⟩
    · rw [dataRows_eq_writeRows ((Nat.zero_add _).symm ▸ hlen), sendOps, setWidth_length hlen]
      simp only [writeRows_append, writeRows_cons, writeRows_nil]
      rfl
    · simp only [sendOps, applyWrites_append, applyWrites_cons, applyWrites_nil, applyWrites_dataOps, stageFrame]
  all_goals cases h

/-! ## STATUS -/

section

variable (s : State)

/-- The bits of STATUS from bit 4 on (30_encoding.md R74). -/
theorem statusWord_phase : (statusWord s).extractLsb' 4 4 = phaseNum s.phase := by
  apply BitVec.eq_of_getLsbD_eq
  intro i hi
  simp only [statusWord, BitVec.getLsbD_extractLsb', BitVec.getLsbD_append]
  simp [hi]

theorem statusWord_high : (statusWord s).extractLsb' 8 8 = 0 := by
  apply BitVec.eq_of_getLsbD_eq
  intro i hi
  simp only [statusWord, BitVec.getLsbD_extractLsb', BitVec.getLsbD_append]
  simp

end

end Sys2Proof.Machine

open Sys2Proof Sys2Proof.Machine

/-- Settles O4: WR CMD is HostWrite at its address, which ORs bit 0 into TX_PENDING. -/
theorem txGoSetsPending : Obligations.TxGoSetsPending := by
  intro s v h
  have hwrite : exec (.wrCmd v) s = .next { s with txPending := v.getLsbD 0 || s.txPending } :=
    exec_of_running (f := hostWrite 0x0F#7 v) rfl h
  refine ⟨fun hv => ?_, fun hv => ?_, exec_of_running (f := putRead 0) rfl h⟩
  · rw [hwrite, hv, Bool.true_or]
  · rw [hwrite, hv, Bool.false_or]

/-- Settles O5: the writes of each row's expansion, an operand kept in its register's width (`configure_eq`,
`stageFrame_eq`). -/
theorem pseudoInstructionsWriteTheirRegisters : Obligations.PseudoInstructionsWriteTheirRegisters := by
  intro s h
  refine ⟨exec_of_running (f := hostWrite 0x0F#7 0x0001#16) rfl h, fun f e => ?_, fun own peer bcast flags => ?_,
    fun m ma sa c ds hlen => ?_⟩
  · rw [← ctrlset_eq]
    exact exec_of_running rfl h
  · rw [← configure_eq]
    exact exec_of_running rfl h
  · rw [← stageFrame_eq m ma sa c (of_decide_eq_true hlen)]
    exact exec_of_running rfl h

/-- Settles O6: both sides are the same writes in order (`expansion_writes`), which a stopped model does not start
on. -/
theorem pseudoInstructionsExpand : Obligations.PseudoInstructionsExpand := by
  intro i rows s hwf hrows
  obtain ⟨ops, hne, rfl, hexec⟩ := expansion_writes hwf hrows
  rw [hexec, runRows_writeRows_eq_live hne]

/-- Settles O12: each word is read by evaluating the decoder. -/
theorem wordsDecodeAsWritten : Obligations.WordsDecodeAsWritten := by
  refine ⟨?_, ?_, ?_, ?_, ?_, ?_, ?_, ?_, ?_, ?_⟩ <;> decide

/-- Settles O55: HostRead of STATUS is the concatenation that STATUS is defined as, read bit by bit. -/
theorem statusLayout : Obligations.StatusLayout := by
  intro s
  have hread : hostRead 0x01#7 s = statusWord s := rfl
  rw [hread]
  refine ⟨?busy, ?pending, ?registered, ?resp, ?phase, statusWord_high s⟩
  case phase =>
    rw [statusWord_phase]
    cases s.phase <;> rfl
  all_goals
    simp only [statusWord, BitVec.getLsbD_append]
    simp
end

section
/-! The block never looks at the inputs still to come: a tick gives the same state whatever the feed holds, and leaves
it as it is (10_state.md R18, log 2). One lemma per operation that branches, in the order of their definitions. -/

namespace Sys2Proof.Machine

/-- s with other inputs still to come. -/
def withFeed (x : List Input) (s : State) : State := { s with feed := x }

section

variable (x : List Input) (s : State)

@[simp] theorem withFeed_par : (withFeed x s).par = s.par := rfl

@[simp] theorem withFeed_phase : (withFeed x s).phase = s.phase := rfl

@[simp] theorem withFeed_elem : (withFeed x s).elem = s.elem := rfl

@[simp] theorem withFeed_didx : (withFeed x s).didx = s.didx := rfl

@[simp] theorem withFeed_frame : (withFeed x s).frame = s.frame := rfl

end

variable (x : List Input) (ts : Stamp) (s : State)

/-- A branch on what the feed is no part of. -/
theorem ite_feed {c : Prop} [Decidable c] {a b a' b' : State} (ha : a' = withFeed x a) (hb : b' = withFeed x b) :
    (if c then a' else b') = withFeed x (if c then a else b) := by
  split <;> assumption

/-- What an operation answers that also says whether the pass continues. -/
def withFeedRx (r : State × Bool) : State × Bool := (withFeed x r.1, r.2)

theorem ite_feedRx {c : Prop} [Decidable c] {a b a' b' : State × Bool} (ha : a' = withFeedRx x a)
    (hb : b' = withFeedRx x b) : (if c then a' else b') = withFeedRx x (if c then a else b) := by
  split <;> assumption

/-! ## The receive pass -/

theorem conclude_feed : conclude (withFeed x s) = withFeed x (conclude s) :=
  ite_feed x rfl (ite_feed x rfl rfl)

theorem rxFinish_feed : rxFinish ts (withFeed x s) = withFeed x (rxFinish ts s) := conclude_feed x (register ts s)

theorem enterElem_feed (e : Elem) (d : Byte) : enterElem e d (withFeed x s) = withFeed x (enterElem e d s) := by
  unfold enterElem
  split <;> rfl

theorem advanceRx_feed : advanceRx (withFeed x s) = withFeedRx x (advanceRx s) := by
  unfold advanceRx
  rw [withFeed_elem, withFeed_didx, withFeed_frame]
  split
  · rw [enterElem_feed, withFeedRx]
  · rfl

theorem ackDone_feed : ackDone ts (withFeed x s) = withFeedRx x (ackDone ts s) := by
  unfold ackDone
  rw [withFeed_elem, withFeed_didx, withFeed_frame]
  split
  · next d _ => exact congrArg (·, false) (rxFinish_feed x ts { s with elem := .fin, didx := d })
  · rw [enterElem_feed, withFeedRx]
  · rfl

theorem deliverVal_feed (f : FieldCode) (b : Bool) :
    deliverVal f b (withFeed x s) = withFeedRx x (deliverVal f b s) := by
  refine ite_feedRx x ?_ rfl
  rw [withFeed_didx, withFeed_frame]
  have hshift : (accumulateBit b (withFeed x s)).shift = (accumulateBit b s).shift := rfl
  rw [hshift]
  split
  · next fr _ => exact advanceRx_feed x { accumulateBit b s with frame := fr }
  · rfl

theorem deliverPar_feed (f : FieldCode) (b : Bool) :
    deliverPar f b (withFeed x s) = withFeedRx x (deliverPar f b s) :=
  ite_feedRx x rfl (ite_feedRx x rfl (advanceRx_feed x (setForme f s)))

theorem rxDeliver_feed (b : Bool) : rxDeliver b ts (withFeed x s) = withFeedRx x (rxDeliver b ts s) := by
  unfold rxDeliver
  rw [withFeed_elem]
  split
  · exact deliverVal_feed x s _ b
  · exact deliverPar_feed x s _ b
  · exact ackDone_feed x ts s
  · rfl

theorem countOrTimeout_feed (f : FieldCode) : countOrTimeout f (withFeed x s) = withFeed x (countOrTimeout f s) :=
  ite_feed x rfl rfl

theorem afterBit_feed (b : Bool) (w : Nat) : afterBit b w (withFeed x s) = withFeed x (afterBit b w s) :=
  ite_feed x rfl rfl

theorem ifContinues_feed {r r' : State × Bool} {next : State → State} (hr : r' = withFeedRx x r)
    (hnext : ∀ t, next (withFeed x t) = withFeed x (next t)) :
    ifContinues r' next = withFeed x (ifContinues r next) := by
  rw [hr]
  exact ite_feed x (hnext r.1) rfl

theorem armStartMeas_feed (l : Bool) : armStartMeas l (withFeed x s) = withFeed x (armStartMeas l s) :=
  ite_feed x (countOrTimeout_feed x s .start) (ite_feed x rfl rfl)

theorem armRxWaithigh_feed (l : Bool) : armRxWaithigh l (withFeed x s) = withFeed x (armRxWaithigh l s) := by
  unfold armRxWaithigh
  rw [withFeed_elem]
  split
  · rfl
  · exact ite_feed x (ite_feed x rfl rfl) (countOrTimeout_feed x s _)

theorem armRxMeas_feed (l : Bool) : armRxMeas l ts (withFeed x s) = withFeed x (armRxMeas l ts s) := by
  unfold armRxMeas
  rw [withFeed_elem]
  split
  · rfl
  · exact ite_feed x (countOrTimeout_feed x s _)
      (ifContinues_feed x (rxDeliver_feed x ts s _) fun t => afterBit_feed x t _ _)

theorem armRxRemain_feed : armRxRemain (withFeed x s) = withFeed x (armRxRemain s) := ite_feed x rfl rfl

theorem armRxAckdrive_feed : armRxAckdrive ts (withFeed x s) = withFeed x (armRxAckdrive ts s) :=
  ite_feed x rfl
    (ifContinues_feed x (ackDone_feed x ts { s with cnt := satInc s.cnt, busOut := false }) fun _ => rfl)

/-! ## The transmit pass -/

theorem startHostTx_feed : startHostTx (withFeed x s) = withFeed x (startHostTx s) := ite_feed x rfl rfl

theorem armArb_feed (l : Bool) : armArb l (withFeed x s) = withFeed x (armArb l s) :=
  ite_feed x rfl (ite_feed x rfl rfl)

theorem encodeWord_feed (f : FieldCode) : encodeWord f (withFeed x s) = withFeed x (encodeWord f s) := by
  unfold encodeWord
  rw [withFeed_frame, withFeed_didx]
  split <;> rfl

theorem beginTxSymbol_feed (e : Elem) : beginTxSymbol e ts (withFeed x s) = withFeed x (beginTxSymbol e ts s) := by
  unfold beginTxSymbol
  split
  · rfl
  · next f _ => exact encodeWord_feed x { s with elem := .el f .val } f
  all_goals rfl

theorem beginAck_feed : beginAck ts (withFeed x s) = withFeed x (beginAck ts s) := by
  unfold beginAck
  rw [withFeed_par, withFeed_frame, withFeed_elem, withFeed_didx]
  split
  · split
    · next e d _ => exact beginTxSymbol_feed x ts { s with didx := d } e
    · rfl
  all_goals rfl

theorem beginTxElem_feed (e : Elem) : beginTxElem e ts (withFeed x s) = withFeed x (beginTxElem e ts s) := by
  unfold beginTxElem
  split
  · next f => exact beginAck_feed x ts { s with elem := .el f .ack }
  all_goals exact beginTxSymbol_feed x ts s _

theorem advanceTx_feed : advanceTx ts (withFeed x s) = withFeed x (advanceTx ts s) := by
  unfold advanceTx
  rw [withFeed_elem, withFeed_didx, withFeed_frame]
  split
  · next e d _ => exact beginTxElem_feed x ts { s with didx := d } e
  · rfl

theorem armTxBit_feed : armTxBit ts (withFeed x s) = withFeed x (armTxBit ts s) :=
  ite_feed x rfl (ite_feed x rfl (advanceTx_feed x ts s))

theorem measureSlot_feed (l : Bool) : measureSlot l (withFeed x s) = withFeed x (measureSlot l s) := ite_feed x rfl rfl

theorem slotTick_feed (f : FieldCode) : slotTick f ts (withFeed x s) = withFeed x (slotTick f ts s) :=
  ite_feed x (ite_feed x (advanceTx_feed x ts s) rfl) rfl

theorem armTxAck_feed (l : Bool) : armTxAck l ts (withFeed x s) = withFeed x (armTxAck l ts s) := by
  unfold armTxAck
  rw [withFeed_elem]
  split
  · rfl
  · rw [measureSlot_feed, slotTick_feed]
    exact ite_feed x rfl rfl

/-! ## The tick -/

theorem armIdle_feed (l : Bool) : armIdle l (withFeed x s) = withFeed x (armIdle l s) :=
  ite_feed x (startHostTx_feed x { s with txPending := false }) (ite_feed x rfl rfl)

theorem arm_feed (l : Bool) : arm l ts (withFeed x s) = withFeed x (arm l ts s) := by
  unfold arm
  rw [withFeed_phase]
  split
  · exact armIdle_feed x s l
  · exact armStartMeas_feed x s l
  · exact armRxWaithigh_feed x s l
  · exact armRxMeas_feed x ts s l
  · exact armRxRemain_feed x s
  · exact armRxAckdrive_feed x ts s
  · exact armArb_feed x s l
  · exact armTxBit_feed x ts s
  · exact armTxAck_feed x ts s l

theorem tick_withFeed (ext : Bool) : tick ext ts (withFeed x s) = withFeed x (tick ext ts s) :=
  congrArg (fun t : State => { t with time := s.time + 1 }) (arm_feed x ts (watchdog s) (lineOf ext s))

end Sys2Proof.Machine
end

section
/-! TICKS n, step by step (30_encoding.md R83, log 16): each step is one free tick, and the directive leaves the feed
with the last. -/

namespace Sys2Proof.Machine

theorem freeTick_withFeed (x : List Input) (s : State) : freeTick (withFeed x s) = withFeed x (freeTick s) :=
  tick_withFeed x (Config.tsIn s.time) s (Config.extDrive s.time)

theorem freeTicks_succ {s : State} (h : s.fault = none) (m : Nat) :
    freeTicks (m + 1) s = freeTicks m (freeTick s) := by
  have htime (k : Nat) : s.time + (k + 1) = (freeTick s).time + k := by
    change _ = s.time + 1 + k
    omega
  rw [freeTicks, List.range_succ_eq_map, List.map_cons, List.map_map, drive_cons h]
  exact congrArg (drive · (freeTick s)) (List.map_congr_left fun k _ => congrArg Config.extDrive (htime k))

/-- Free ticks that end with no fault began with none. -/
theorem fault_none_of_freeTicks {s : State} {m : Nat} (h : (freeTicks m s).fault = none) : s.fault = none := by
  cases hs : s.fault with
  | none => rfl
  | some r =>
    rw [freeTicks, drive_fault hs, hs] at h
    exact h

theorem freeTicks_time {s : State} {m : Nat} (h : (freeTicks m s).fault = none) :
    (freeTicks m s).time = s.time + m := by
  have htime := drive_time h
  rwa [List.length_map, List.length_range] at htime

/-- An operation is noted for no tick to come (log 20). -/
abbrev NotedByNow (s : State) : Prop := ∀ u, s.opTick = some u → u ≤ s.time

/-- After a tick no operation is noted for the current one. -/
theorem opTick_ne_after_freeTick {s : State} (h : NotedByNow s) : (freeTick s).opTick ≠ some (freeTick s).time := by
  have hop : (freeTick s).opTick = s.opTick := tick_opTick s _ _
  have htime : (freeTick s).time = s.time + 1 := rfl
  rw [hop, htime]
  intro hnow
  exact absurd (h _ hnow) (Nat.not_succ_le_self _)

theorem notedByNow_freeTick {s : State} (h : NotedByNow s) : NotedByNow (freeTick s) := by
  have hop : (freeTick s).opTick = s.opTick := tick_opTick s _ _
  intro u hu
  exact Nat.le_succ_of_le (h u (hop ▸ hu))

theorem core_run_succ (M : Host.Core) {s t : M.State} (h : M.step s = .next t) (k : Nat) :
    M.run (k + 1) s = M.run k t := by
  rw [Host.Core.run, h]

/-- TICKS n with m + 1 ticks to pass takes m + 1 steps. -/
theorem run_ticks {s : State} {rest : List Input} {n m : Nat} (hfault : s.fault = none)
    (hfeed : s.feed = .ticks n :: rest) (hnoted : NotedByNow s) (hpass : ticksToPass n s = m + 1)
    (hend : (freeTicks (m + 1) (withFeed rest s)).fault = none) :
    Host.Core.run Sys2Proof.core (m + 1) s = .next (freeTicks (m + 1) (withFeed rest s)) := by
  induction m generalizing s n with
  | zero =>
    have hstep : step s = .next (freeTick (withFeed rest s)) := by
      rw [step_ticks hfault hfeed, passTicks, hpass]
      rfl
    rw [freeTicks_succ (s := withFeed rest s) hfault]
    exact core_run_succ Sys2Proof.core hstep 0
  | succ m ih =>
    have hstep : step s = .next (freeTick (withFeed (.ticks (m + 1) :: rest) s)) := by
      rw [step_ticks hfault hfeed, passTicks, hpass]
      rfl
    rw [freeTicks_succ (s := withFeed rest s) hfault] at hend ⊢
    have hnext : freeTick (withFeed rest s) = withFeed rest (freeTick (withFeed (.ticks (m + 1) :: rest) s)) := by
      rw [freeTick_withFeed, freeTick_withFeed]
      rfl
    rw [hnext] at hend ⊢
    have hfault' := fault_none_of_freeTicks hend
    refine (core_run_succ Sys2Proof.core hstep (m + 1)).trans (ih (n := m + 1) hfault' ?_ ?_ ?_ hend)
    · exact tick_feed _ _ _
    · exact notedByNow_freeTick (s := withFeed _ s) hnoted
    · exact ticksToPass_of_ne (opTick_ne_after_freeTick (s := withFeed _ s) hnoted)

end Sys2Proof.Machine

open Sys2Proof Sys2Proof.Machine

/-- Settles O15: each step is a free tick that leaves one tick less to pass (`run_ticks`), since no tick of the block
reads the feed (`tick_withFeed`); ticks leave the host's side alone (`drive_ticksKeep`). -/
theorem ticksPassesItsTicks : Obligations.TicksPassesItsTicks := by
  rintro s t rest n m hfault hfeed hnoted hm hpos rfl hend
  obtain ⟨k, rfl⟩ := Nat.exists_eq_add_one.mpr hpos
  have hkeep : TicksKeep (withFeed rest s) (freeTicks (k + 1) (withFeed rest s)) := drive_ticksKeep _ _
  obtain ⟨_, _, _, _, _, _, _, _, hrest, hop, hreads⟩ := hkeep.fields
  exact ⟨run_ticks hfault hfeed hnoted hm.symm hend, freeTicks_time hend, hrest, hreads, hop⟩

end

section
/-! The step of the machine at an encoded form, one that is a row and one that is none (30_encoding.md R79, R85). -/

namespace Sys2Proof.Machine

section

variable {s : State} {c : Code} {rest : List Input} (hfault : s.fault = none) (hfeed : s.feed = .code c :: rest)

include hfault hfeed

theorem step_code_row {i : Instr} (h : decode c = .ok i) :
    step s = exec i { s with feed := rest, opTick := if isHostRow i then some s.time else s.opTick } := by
  simp [step, hfault, hfeed, h, noteRow_eq]

theorem step_code_form {e : DecodeError} (h : decode c = .error e) :
    step s = .next (passForm c { s with feed := rest }) := by
  simp [step, hfault, hfeed, h]

end

/-- A row's bits decode as the form that their layout gives (30_encoding.md R82). -/
theorem decodeTableWord_eq_some {nbits w : Nat} {i : Instr} (h : decodeTableWord nbits w = some i) :
    ∃ c, tableCode nbits w = some c ∧ decode c = .ok i := by
  unfold decodeTableWord at h
  split at h
  · next c hc =>
    split at h
    · next i' hi =>
      cases h
      exact ⟨c, hc, hi⟩
    · cases h
  · cases h

/-! ## How long a wire row lasts -/

theorem wave_start_length {p : Params} (h : p.SourceTiming) : (wave p [.start]).length = 47 := by
  rw [wave_start h]
  rfl

theorem frameBits_length (a : ParField 12) (b : AckField 12) (c : AckField 4) (l : AckField 8)
    (ds : List (AckField 8)) : (frameBits a b c l ds).length = 43 + 10 * ds.length := by
  have hds : (ds.flatMap ackBits).length = 10 * ds.length := by
    induction ds with
    | nil => rfl
    | cons d ds ih =>
      rw [List.flatMap_cons, List.length_append, ih, ackBits_length, List.length_cons]
      omega
  simp only [frameBits, List.length_append, parBits_length, ackBits_length, hds]
  omega

/-- A wire row is a string of symbols that takes the row's ticks at the source's timing (30_encoding.md R80). -/
theorem exec_wireRow_ticks (i : Instr) (h : isHostRow i = false) :
    ∃ ss, (∀ s, exec i s = live s (driveSymbols ss)) ∧
      ∀ p : Params, p.SourceTiming → (wave p ss).length = rowTicks i := by
  have hbits {p : Params} (hp : p.SourceTiming) {ss : List Symbol} {bs : List Bool} (hss : ss = bs.map symbolOf) :
      (wave p ss).length = 10 * bs.length := by
    rw [hss, wave_map_symbolOf_length hp]
  cases i
  case bit1 | ackSlotNotAcked => exact ⟨[.one], fun _ => rfl, fun p hp => hbits hp (bs := [true]) rfl⟩
  case bit0 | ackSlotAcked => exact ⟨[.zero], fun _ => rfl, fun p hp => hbits hp (bs := [false]) rfl⟩
  case start => exact ⟨[.start], fun _ => rfl, fun p hp => wave_start_length hp⟩
  case fieldMode m => exact ⟨[symbolOf m], fun _ => rfl, fun p hp => hbits hp (bs := [m]) rfl⟩
  case fieldMaster x =>
    exact ⟨_, fun _ => rfl, fun p hp => by rw [hbits hp (parFieldSymbols_eq_map x), parBits_length]; rfl⟩
  case fieldSlave x | fieldControl x | fieldLength x | fieldData x =>
    exact ⟨_, fun _ => rfl, fun p hp => by rw [hbits hp (ackFieldSymbols_eq_map x), ackBits_length]; rfl⟩
  case frame m a b c l ds =>
    refine ⟨_, fun _ => rfl, fun p hp => ?_⟩
    have hsplit : frameSymbols m a b c l ds = [.start] ++ (m :: frameBits a b c l ds).map symbolOf :=
      frameSymbols_eq_map m a b c l ds
    rw [hsplit, wave_append, List.length_append, wave_start_length hp, wave_map_symbolOf_length hp, List.length_cons,
      frameBits_length, rowTicks]
    omega
  all_goals cases h

end Sys2Proof.Machine

open Sys2Proof Sys2Proof.Machine

/-- Settles O13: `step_code_row` for a row and `step_code_form` for a form that is none; a host operation word always
decodes, and the bits placed by `withFetchWord` are such a form. -/
theorem stepRunsTheDecodedInstruction : Obligations.StepRunsTheDecodedInstruction := by
  refine ⟨fun s c rest i hfault hfeed hdecode => step_code_row hfault hfeed hdecode, ?form, ?word⟩
  case form =>
    intro s c rest e hfault hfeed hdecode
    have hstep := step_code_form hfault hfeed hdecode
    refine ⟨?_, ?_, ?_, ?_, ?_⟩
    · rintro slot line rfl
      exact hstep
    · rintro f ss rfl
      exact hstep
    · rintro ss rfl
      exact hstep
    · rintro ws rfl
      exact hstep.trans (congrArg _ (issueWords_eq ws _))
    · rintro w rfl
      cases hdecode
  case word =>
    intro s nbits w i hfault hword
    obtain ⟨c, hcode, hdecode⟩ := decodeTableWord_eq_some hword
    have hfeed : (s.withFetchWord nbits w).feed = .code c :: s.feed := by
      simp [State.withFetchWord, scheduleWord, hcode]
    exact step_code_row (s := s.withFetchWord nbits w) hfault hfeed hdecode

/-- Settles O52: a wire row drives the line for as many ticks as its symbols take (`exec_wireRow_ticks`), and each tick
counts one (`drive_time`). -/
theorem wireRowsTakeTheirPeriods : Obligations.WireRowsTakeTheirPeriods := by
  intro i s hrow hfault htiming
  obtain ⟨ss, hexec, hticks⟩ := exec_wireRow_ticks i hrow
  refine ⟨driveSymbols ss s, (hexec s).trans (live_none hfault _), fun hend => ?_⟩
  rw [← hticks s.par htiming]
  exact drive_time hend

end

section
/-! What a sender puts on the line while a FRAME row passes whose slots pass: its own fields, and a pulse of five ticks
in each slot (30_encoding.md R65, R67, 43_acknowledge.md R123). -/

namespace Sys2Proof.Machine

/-! ## A slot -/

section

variable {s : State} {f : FieldCode} (htiming : s.par.SourceTiming) (helem : s.elem = .el f .ack)

include htiming helem

/-- In a measured slot the sender leaves the line low (43_acknowledge.md R126). -/
theorem busTrace_slotMeasured {w k n : Nat} (hk : 5 ≤ k) (hn : k + n ≤ 10) :
    busTrace (List.replicate n false) (slotMeasured w k s) = List.replicate n false := by
  induction n generalizing k with
  | zero => rfl
  | succ n ih =>
    rw [List.replicate_succ, busTrace]
    refine congrArg (false :: ·) ?_
    cases n with
    | zero => rfl
    | succ n =>
      rw [tick_slotMeasured helem, slotTick_more htiming hk (by omega)]
      exact ih (k := k + 1) (by omega) (by omega)

/-- While the other nodes hold the line high the sender's own pulse is over after five ticks. -/
theorem busTrace_slotAt {k n : Nat} (hn : k + n < 47) (es : List Bool) :
    busTrace (List.replicate n true ++ es) (slotAt k s) =
      (List.range' k n).map (fun j => decide (j < 5)) ++ busTrace es (slotAt (k + n) s) := by
  induction n generalizing k with
  | zero => rfl
  | succ n ih =>
    have hsum : k + (n + 1) = k + 1 + n := by omega
    rw [List.replicate_succ, List.cons_append, busTrace, tick_slotAt_high htiming helem (by omega) (.inr rfl),
      ih (by omega), hsum]
    rfl

/-- A slot the other nodes hold high for w ticks, at least as long as the sender's own pulse. -/
theorem busTrace_openSlot {w : Nat} (hw : 5 ≤ w) (hw' : w ≤ 9) :
    busTrace (List.replicate w true ++ List.replicate (10 - w) false) (openSlot s) =
      (List.range' 0 w).map (fun j => decide (j < 5)) ++ List.replicate (10 - w) false := by
  obtain ⟨v, rfl⟩ := Nat.exists_eq_add_of_le' hw
  have hfirst : busTrace (List.replicate (v + 5) true ++ List.replicate (10 - (v + 5)) false) (openSlot s) =
      busTrace (List.replicate (v + 5) true ++ List.replicate (10 - (v + 5)) false) (slotAt 0 s) := by
    rw [List.replicate_succ, List.cons_append, busTrace, busTrace, tick_openSlot]
    rfl
  obtain ⟨n, hn⟩ : ∃ n, 10 - (v + 5) = n + 1 := ⟨4 - v, by omega⟩
  have hlow : busTrace (List.replicate (n + 1) false) (slotAt (v + 5) s) =
      busTrace (List.replicate (n + 1) false) (slotMeasured (v + 5) (v + 5) s) := by
    have hover : ¬ v + 5 < 5 := by omega
    have hbus : (slotAt (v + 5) s).busOut = false := (decide_eq_false hover : decide (v + 5 < 5) = false)
    have htick (ts : Stamp) : tick false ts (slotAt (v + 5) s) = tick false ts (slotMeasured (v + 5) (v + 5) s) := by
      rw [tick_slotAt_low htiming helem hw (by omega), tick_slotMeasured helem]
    rw [List.replicate_succ, busTrace, busTrace, hbus, htick]
    rfl
  rw [hfirst, busTrace_slotAt htiming helem (by omega), Nat.zero_add, hn, hlow,
    busTrace_slotMeasured htiming helem hw (by omega)]

/-- A slot row shows the sender's own pulse, whether another node stretches it or not (30_encoding.md R65). -/
theorem busTrace_slotRow (k : Bool) : busTrace (wave s.par [symbolOf k]) (openSlot s) = wave s.par [.one] := by
  have hone : wave s.par [.one] = pulse 5 10 := wave_one htiming
  cases k with
  | false =>
    have hzero : wave s.par [symbolOf false] = pulse 9 10 := wave_zero htiming
    rw [hzero, hone]
    exact busTrace_openSlot htiming helem (w := 9) (by decide) (by decide)
  | true =>
    have hsym : wave s.par [symbolOf true] = pulse 5 10 := hone
    rw [hsym, hone]
    exact busTrace_openSlot htiming helem (w := 5) (by decide) (by decide)

end

/-! ## A field -/

theorem txAt_fault {s : State} {f : FieldCode} {v : BitVec 12} (hfault : s.fault = none)
    (hvalue : fieldValue s.frame s.didx f = some v) : (txAt f s).fault = none := by
  rw [txAt_eq hvalue]
  exact hfault

theorem txAt_par {s : State} {f : FieldCode} {v : BitVec 12} (hvalue : fieldValue s.frame s.didx f = some v) :
    (txAt f s).par = s.par := by
  rw [txAt_eq hvalue]
  rfl

/-- A row of symbols at a sender: what it puts on the line meanwhile, and where it gets to. -/
structure RowPasses (ss sent : List Symbol) (s t : State) : Prop where
  trace : busTrace (wave s.par ss) s = wave s.par sent
  drive : drive (wave s.par ss) s = t

theorem RowPasses.trans {ss ss' sent sent' : List Symbol} {s t u : State} (h : RowPasses ss sent s t)
    (hfault : t.fault = none) (h' : RowPasses ss' sent' t u) : RowPasses (ss ++ ss') (sent ++ sent') s u := by
  obtain ⟨htrace, hdrive⟩ := h
  obtain ⟨htrace', hdrive'⟩ := h'
  have hpar : t.par = s.par := by
    rw [← hdrive]
    obtain ⟨_, _, _, _, _, _, _, hpar, _⟩ := (drive_ticksKeep s (wave s.par ss)).fields
    exact hpar
  rw [hpar] at htrace' hdrive'
  constructor
  · rw [wave_append, wave_append, busTrace_append_of_drive hdrive hfault, htrace, htrace']
  · rw [wave_append, drive_append, hdrive, hdrive']

section

variable {s : State} {f : FieldCode} {v : BitVec 12} (hfault : s.fault = none) (htiming : s.par.SourceTiming)
  (hvalue : fieldValue s.frame s.didx f = some v)

include hfault htiming hvalue

/-- A field with no slot, whatever as many bits pass on the line. -/
theorem rowPasses_slotless {g : FieldCode} {w : BitVec 12}
    (hnext : nextElem (lastElem f) s.didx s.frame.len = some (.el g .val, s.didx))
    (hg : fieldValue s.frame s.didx g = some w) {bs : List Bool} (hlen : bs.length = (sentSymbols f v).length) :
    RowPasses (bs.map symbolOf) (sentSymbols f v) (txAt f s) (txAt g (onward s.didx (10 * bs.length) s)) := by
  have hticks : (wave s.par (bs.map symbolOf)).length = (wave s.par (sentSymbols f v)).length := by
    rw [wave_map_symbolOf_length htiming, sentSymbols_wave_length htiming, hlen]
  obtain ⟨htrace, _⟩ := sendsTo_field hfault htiming hvalue _ hticks
  have hdrive := drive_slotlessField hfault htiming hvalue hnext hg hlen
  rw [← txAt_par hvalue] at htrace hdrive
  exact ⟨htrace, hdrive⟩

variable (hparity : hasParity f = true)
  (hslot : nextElem (.el f .par) s.didx s.frame.len = some (.el f .ack, s.didx)) (hsent : SlotsSent s)
  (x : AckField (fieldWidth f))

include hparity hslot hsent

/-- A field with a slot: the sender's own symbols, and its pulse in the slot. -/
theorem busTrace_ackField :
    busTrace (wave s.par (ackFieldSymbols x)) (txAt f s) = wave s.par (sentSymbols f v ++ [.one]) := by
  have hsymbols : ackFieldSymbols x = (msbFirst x.v (fieldWidth f) ++ [x.p]).map symbolOf ++ [symbolOf x.k] := by
    simp [ackFieldSymbols, valueSymbols]
  have hlength : (wave s.par ((msbFirst x.v (fieldWidth f) ++ [x.p]).map symbolOf)).length =
      (wave s.par (sentSymbols f v)).length := by
    rw [wave_map_symbolOf_length htiming, sentSymbols_wave_length htiming, sentSymbols_length, hparity]
    simp
  obtain ⟨htrace, hdrive⟩ := sendsTo_openSlot hfault htiming hvalue hparity hslot hsent _ hlength
  have hslotRow := busTrace_slotRow (s := slotStart f v s) (f := f) htiming rfl x.k
  rw [hsymbols, wave_append, wave_append, busTrace_append_of_drive hdrive hfault, htrace]
  exact congrArg _ hslotRow

/-- The same where the slot passes and another field follows. -/
theorem rowPasses_ackField (hpass : SlotPasses x.k s) {g : FieldCode} {w : BitVec 12} {d : Byte}
    (hnext : nextElem (.el f .ack) s.didx s.frame.len = some (.el g .val, d)) (hg : fieldValue s.frame d g = some w) :
    RowPasses (ackFieldSymbols x) (sentSymbols f v ++ [.one]) (txAt f s)
      (txAt g (onward d (10 * (fieldWidth f + 2)) (acknowledged s))) := by
  have htrace := busTrace_ackField hfault htiming hvalue hparity hslot hsent x
  have hdrive := drive_ackField_next hfault htiming hvalue hparity hslot hsent hpass hnext hg
  rw [← txAt_par hvalue] at htrace hdrive
  exact ⟨htrace, hdrive⟩

/-- The last field of a frame. -/
theorem rowPasses_lastField :
    ∃ t, RowPasses (ackFieldSymbols x) (sentSymbols f v ++ [.one]) (txAt f s) t := by
  have htrace := busTrace_ackField hfault htiming hvalue hparity hslot hsent x
  rw [← txAt_par hvalue] at htrace
  exact ⟨_, htrace, rfl⟩

end

/-! ## A whole frame -/

/-- What the sender puts on the line for data bytes, each with its slot (30_encoding.md R67). -/
def sentData (bytes : List Byte) : List Symbol := bytes.flatMap fun d => sentSymbols .data (d.setWidth 12) ++ [.one]

/-- The data fields from byte DIDX on. -/
theorem rowPasses_dataFields {s : State} {x : AckField 8} {xs : List (AckField 8)} (hfault : s.fault = none)
    (htiming : s.par.SourceTiming) (hsent : SlotsSent s) (hlen : s.frame.len.toNat ≤ maxData)
    (hcount : s.didx.toNat + (xs.length + 1) = s.frame.len.toNat) (hpass : ∀ y ∈ x :: xs, SlotPasses y.k s) :
    ∃ t, RowPasses (dataFieldSymbols (x :: xs))
      (sentData ((s.frame.data.toList.drop s.didx.toNat).take (xs.length + 1))) (txAt .data s) t := by
  have hidx : s.didx.toNat < maxData := by omega
  induction xs generalizing s x with
  | nil =>
    obtain ⟨t, ht⟩ := rowPasses_lastField (f := .data) hfault htiming (fieldValue_data hidx) rfl rfl hsent x
    refine ⟨t, ?_⟩
    rw [drop_data hidx, List.length_nil, Nat.zero_add, List.take_succ_cons, List.take_zero, sentData, dataFieldSymbols,
      List.flatMap_cons, List.flatMap_nil, List.append_nil, List.flatMap_cons, List.flatMap_nil, List.append_nil]
    exact ht
  | cons y ys ih =>
    rw [List.length_cons] at hcount
    have hsucc : (s.didx + 1).toNat = s.didx.toNat + 1 := by bv_omega
    have hnext : nextElem (.el .data .ack) s.didx s.frame.len = some (.el .data .val, s.didx + 1) :=
      if_pos (by omega)
    have hvalue' := fieldValue_data (fr := s.frame) (d := s.didx + 1) (by omega)
    have hfield := rowPasses_ackField (f := .data) hfault htiming (fieldValue_data hidx) rfl rfl hsent x
      (hpass x List.mem_cons_self) hnext hvalue'
    obtain ⟨t, hrest⟩ := ih (s := onward (s.didx + 1) 100 (acknowledged s)) (x := y) hfault htiming hsent hlen
      (show (s.didx + 1).toNat + (ys.length + 1) = s.frame.len.toNat by omega)
      (fun z hz => hpass z (List.mem_cons_of_mem x hz)) (show (s.didx + 1).toNat < maxData by omega)
    refine ⟨t, ?_⟩
    have hdrop : s.frame.data.toList.drop (s.didx.toNat + 1) =
        (onward (s.didx + 1) 100 (acknowledged s)).frame.data.toList.drop
          (onward (s.didx + 1) 100 (acknowledged s)).didx.toNat := congrArg (List.drop · _) hsucc.symm
    rw [drop_data hidx, List.length_cons, List.take_succ_cons, sentData, List.flatMap_cons, hdrop]
    exact hfield.trans (txAt_fault (s := onward (s.didx + 1) 100 (acknowledged s)) hfault hvalue') hrest

/-- The length field and the data fields. -/
theorem rowPasses_lengthAndData {s : State} {l : AckField 8} {ds : List (AckField 8)} (hfault : s.fault = none)
    (htiming : s.par.SourceTiming) (hsent : SlotsSent s) (hlen : s.frame.len.toNat ≤ maxData)
    (hcount : ds.length = s.frame.len.toNat) (hlpass : SlotPasses l.k s) (hpass : ∀ y ∈ ds, SlotPasses y.k s) :
    ∃ t, RowPasses (ackFieldSymbols l ++ dataFieldSymbols ds)
      (sentSymbols .length (s.frame.len.setWidth 12) ++ [.one] ++
        sentData (s.frame.data.toList.take s.frame.len.toNat)) (txAt .length s) t := by
  cases ds with
  | nil =>
    rw [← hcount]
    exact rowPasses_lastField (f := .length) hfault htiming rfl rfl rfl hsent l
  | cons x xs =>
    rw [List.length_cons] at hcount
    have hne : s.frame.len ≠ 0 := by bv_omega
    have hvalue := fieldValue_data (fr := s.frame) (d := 0) (by decide)
    have hfield := rowPasses_ackField (f := .length) hfault htiming rfl rfl rfl hsent l hlpass
      (show nextElem (.el .length .ack) s.didx s.frame.len = some (.el .data .val, 0) from if_neg hne) hvalue
    obtain ⟨t, hdata⟩ := rowPasses_dataFields (s := onward 0 100 (acknowledged s)) (x := x) (xs := xs) hfault htiming
      hsent hlen ((Nat.zero_add _).trans hcount) hpass
    refine ⟨t, ?_⟩
    rw [← hcount]
    exact hfield.trans (txAt_fault (s := onward 0 100 (acknowledged s)) hfault hvalue) hdata

/-- START at a sender (42_start_arbitration.md R112). -/
theorem rowPasses_start {s : State} (h : TxAtStart s) :
    RowPasses [.start] [.start] s (txAt .mode (onward s.didx 47 s)) := by
  obtain ⟨htrace, hdrive⟩ := sendsTo_start h _ rfl
  exact ⟨htrace, hdrive⟩

theorem sentFrame_eq (fr : FrameBuf) :
    sentFrame [.one] fr = [.start] ++ (sentSymbols .mode ((BitVec.ofBool fr.mode).setWidth 12) ++
      (sentSymbols .master fr.master ++ ((sentSymbols .slave fr.slave ++ [.one]) ++
        ((sentSymbols .control (fr.ctrl.setWidth 12) ++ [.one]) ++
          (sentSymbols .length (fr.len.setWidth 12) ++ [.one] ++ sentData (fr.data.toList.take fr.len.toNat)))))) := by
  simp only [sentFrame, sentData, sentSymbols_mode, List.append_assoc, List.cons_append, List.nil_append]

/-- Every slot of a row passes where all are acknowledged or the frame is Broadcast. -/
theorem slotPasses_all {s : State} {b : AckField 12} {c : AckField 4} {l : AckField 8} {ds : List (AckField 8)}
    (h : AllAcked b c l ds ∨ s.frame.mode = s.par.modeBcastBit) :
    SlotPasses b.k s ∧ SlotPasses c.k s ∧ SlotPasses l.k s ∧ ∀ y ∈ ds, SlotPasses y.k s := by
  obtain ⟨hb, hc, hl, hds⟩ | hmode := h
  · exact ⟨.inl hb, .inl hc, .inl hl, fun y hy => .inl (hds y hy)⟩
  · exact ⟨.inr hmode, .inr hmode, .inr hmode, fun _ _ => .inr hmode⟩

/-- A FRAME row at a sender whose slots all pass (44_frame_transmit.md R138). -/
theorem rowPasses_frame {s : State} (m : Bool) (a : ParField 12) {b : AckField 12} {c : AckField 4} {l : AckField 8}
    {ds : List (AckField 8)} (hstart : TxAtStart s) (hsent : SlotsSent s) (hlen : s.frame.len.toNat ≤ maxData)
    (hcount : ds.length = s.frame.len.toNat) (hb : SlotPasses b.k s) (hc : SlotPasses c.k s) (hl : SlotPasses l.k s)
    (hds : ∀ y ∈ ds, SlotPasses y.k s) :
    ∃ t, RowPasses (frameSymbols m a b c l ds) (sentFrame [.one] s.frame) s t := by
  obtain ⟨hfault, htiming, _⟩ := id hstart
  have hmode : RowPasses [symbolOf m] _ _ (txAt .master (onward s.didx 57 s)) :=
    rowPasses_slotless (s := onward s.didx 47 s) (f := .mode) hfault htiming rfl rfl rfl (bs := [m]) rfl
  have hmaster : RowPasses (parFieldSymbols a) _ _ (txAt .slave (onward s.didx 187 s)) :=
    parFieldSymbols_eq a ▸ rowPasses_slotless (s := onward s.didx 57 s) (f := .master) hfault htiming rfl rfl rfl rfl
  have hslave : RowPasses _ _ _ (txAt .control (onward s.didx 327 (acknowledged s))) :=
    rowPasses_ackField (s := onward s.didx 187 s) (f := .slave) hfault htiming rfl rfl rfl hsent b hb rfl rfl
  have hcontrol : RowPasses _ _ _ (txAt .length (onward s.didx 387 (acknowledged s))) :=
    rowPasses_ackField (s := onward s.didx 327 (acknowledged s)) (f := .control) hfault htiming rfl rfl rfl hsent c hc
      rfl rfl
  obtain ⟨t, hrest⟩ := rowPasses_lengthAndData (s := onward s.didx 387 (acknowledged s)) hfault htiming hsent hlen
    hcount hl hds
  have hsplit : frameSymbols m a b c l ds = [.start] ++ ([symbolOf m] ++ (parFieldSymbols a ++ (ackFieldSymbols b ++
      (ackFieldSymbols c ++ (ackFieldSymbols l ++ dataFieldSymbols ds))))) := rfl
  refine ⟨t, ?_⟩
  rw [hsplit, sentFrame_eq]
  exact (rowPasses_start hstart).trans hfault <| hmode.trans hfault <| hmaster.trans hfault <| hslave.trans hfault <|
    hcontrol.trans hfault hrest

end Sys2Proof.Machine

open Sys2Proof Sys2Proof.Machine

/-- Settles O24: START and the fields one after another (`rowPasses_frame`), a slot showing the sender's own pulse
whether another node stretches it or not (`busTrace_slotRow`). -/
theorem frameTransmittedBitExactly : Obligations.FrameTransmittedBitExactly := by
  intro s m a b c l ds hstart hlen hcount hpasses hsent
  obtain ⟨hb, hc, hl, hds⟩ := slotPasses_all hpasses
  obtain ⟨_, hrow⟩ := rowPasses_frame m a hstart hsent hlen hcount hb hc hl hds
  exact hrow.trace

end
